-- ==== Sys2Proof/Word.lean ====
section
/-! DEFINITION. The two word types of the block (00_scope.md R4, R5): a byte and a 16-bit address. -/

namespace Sys2Proof

/-- A byte: a register, a data value, an operand byte (`XLEN` = 8, R4). -/
abbrev Byte := BitVec 8

/-- A 16-bit address: `PC` and every memory address (`ALEN` = 16, R4). -/
abbrev Addr := BitVec 16

end Sys2Proof
end

