-- ==== Sys2Proof/Config.lean ====
section
/-! DEFINITION. What an implementation of the block fixes (00_scope.md R4): the OPEN parameters as free values with no
body, so that no proof can depend on them, and the parameters the spec has decided. -/

namespace Sys2Proof

/-- The operation a decimal-mode configuration function is asked about (92_eei_decisions.md D8). -/
inductive DecimalOp where
  | adc
  | sbc
  deriving DecidableEq, Repr

/-- What the ALU's add/subtract unit writes: the byte for `A` and the four flags (42_arithmetic_compare.md R135 to R137). -/
structure AluResult where
  value : Byte
  c : Bool
  z : Bool
  n : Bool
  v : Bool
  deriving DecidableEq, Repr, Inhabited

namespace Config

/-- `HALT_ON_BREAK` (R4, D4), OPEN: the value the strap of `State.reset` has. Log entry 1. -/
opaque haltOnBreak : Bool

/-- `DECIMAL_ENABLE` (R4, D7), OPEN: the value the strap of `State.reset` has. Log entry 1. -/
opaque decimalEnable : Bool

/-- `DecimalV(a, m, c, op)` (R4, R136, R137, D8), OPEN: `V` after a decimal-mode ADC or SBC. A free value. Log entry 2. -/
opaque decimalV (a m : Byte) (c : Bool) (op : DecimalOp) : Bool

/-- `InvalidBCD(a, m, c, op)` (R4, R136, R137, D8), OPEN: the whole result of a decimal-mode ADC or SBC with an operand
nibble above 9. A free value: the machine goes on. Log entry 2. -/
opaque invalidBcd (a m : Byte) (c : Bool) (op : DecimalOp) : AluResult

/-- `BRK_PUSH_OFFSET` (R4), decided by the spec: 2 (D5). -/
def brkPushOffset : Addr := 2

/-- What a memory address that no cell lists reads as. The spec leaves `MEM_INIT` OPEN (D15); the zero fill is the
convention of its own programs (R236). DESIGN CHOICE, unsafe: log entry 4. -/
def fillByte : Byte := 0x00

end Config

end Sys2Proof
end

