-- ==== Sys2Proof/Syntax.lean ====
section
/-! DEFINITION. The instruction set as syntax: the thirteen formats of 30_encoding.md R61 and ONE inductive with one
constructor for each of the 151 rows of opcode_table.json (R66). -/

namespace Sys2Proof

/-- The thirteen formats (addressing modes) of R61. -/
inductive Mode where
  /-- implied -/
  | imp
  /-- accumulator -/
  | acc
  /-- immediate -/
  | imm
  /-- zero page -/
  | zp
  /-- zero page,X -/
  | zpx
  /-- zero page,Y -/
  | zpy
  /-- absolute -/
  | abs
  /-- absolute,X -/
  | abx
  /-- absolute,Y -/
  | aby
  /-- (zero page,X) -/
  | izx
  /-- (zero page),Y -/
  | izy
  /-- (absolute), JMP only -/
  | ind
  /-- relative -/
  | rel
  deriving DecidableEq, Repr

/-- The 56 mnemonics (R1, R66). -/
inductive Mnemonic where
  | lda | ldx | ldy | sta | stx | sty | tax | tay | tsx | txa | txs | tya
  | adc | sbc | cmp | cpx | cpy
  | and | ora | eor | bit | asl | lsr | rol | ror | inc | dec | inx | iny | dex | dey
  | bcc | bcs | beq | bne | bmi | bpl | bvc | bvs | jmp | jsr | rts
  | pha | php | pla | plp | clc | cld | cli | clv | sec | sed | sei | nop | brk | rti
  deriving DecidableEq, Repr

/-- The 151 instructions: the mnemonic in lower case, then the format where the mnemonic has more than one. A byte
operand is `imm8`, `zp8` or `rel8`, a word operand `addr16` (R63). -/
inductive Instr where
  -- Load, store and transfer (41_load_store_transfer.md)
  | ldaImm (imm : Byte)
  | ldaZp (zp : Byte)
  | ldaZpx (zp : Byte)
  | ldaAbs (addr : Addr)
  | ldaAbx (addr : Addr)
  | ldaAby (addr : Addr)
  | ldaIzx (zp : Byte)
  | ldaIzy (zp : Byte)
  | ldxImm (imm : Byte)
  | ldxZp (zp : Byte)
  | ldxZpy (zp : Byte)
  | ldxAbs (addr : Addr)
  | ldxAby (addr : Addr)
  | ldyImm (imm : Byte)
  | ldyZp (zp : Byte)
  | ldyZpx (zp : Byte)
  | ldyAbs (addr : Addr)
  | ldyAbx (addr : Addr)
  | staZp (zp : Byte)
  | staZpx (zp : Byte)
  | staAbs (addr : Addr)
  | staAbx (addr : Addr)
  | staAby (addr : Addr)
  | staIzx (zp : Byte)
  | staIzy (zp : Byte)
  | stxZp (zp : Byte)
  | stxZpy (zp : Byte)
  | stxAbs (addr : Addr)
  | styZp (zp : Byte)
  | styZpx (zp : Byte)
  | styAbs (addr : Addr)
  | tax
  | tay
  | tsx
  | txa
  | txs
  | tya
  -- Arithmetic and compare (42_arithmetic_compare.md)
  | adcImm (imm : Byte)
  | adcZp (zp : Byte)
  | adcZpx (zp : Byte)
  | adcAbs (addr : Addr)
  | adcAbx (addr : Addr)
  | adcAby (addr : Addr)
  | adcIzx (zp : Byte)
  | adcIzy (zp : Byte)
  | sbcImm (imm : Byte)
  | sbcZp (zp : Byte)
  | sbcZpx (zp : Byte)
  | sbcAbs (addr : Addr)
  | sbcAbx (addr : Addr)
  | sbcAby (addr : Addr)
  | sbcIzx (zp : Byte)
  | sbcIzy (zp : Byte)
  | cmpImm (imm : Byte)
  | cmpZp (zp : Byte)
  | cmpZpx (zp : Byte)
  | cmpAbs (addr : Addr)
  | cmpAbx (addr : Addr)
  | cmpAby (addr : Addr)
  | cmpIzx (zp : Byte)
  | cmpIzy (zp : Byte)
  | cpxImm (imm : Byte)
  | cpxZp (zp : Byte)
  | cpxAbs (addr : Addr)
  | cpyImm (imm : Byte)
  | cpyZp (zp : Byte)
  | cpyAbs (addr : Addr)
  -- Logic, shift, increment (43_logic_shift_incdec.md)
  | andImm (imm : Byte)
  | andZp (zp : Byte)
  | andZpx (zp : Byte)
  | andAbs (addr : Addr)
  | andAbx (addr : Addr)
  | andAby (addr : Addr)
  | andIzx (zp : Byte)
  | andIzy (zp : Byte)
  | oraImm (imm : Byte)
  | oraZp (zp : Byte)
  | oraZpx (zp : Byte)
  | oraAbs (addr : Addr)
  | oraAbx (addr : Addr)
  | oraAby (addr : Addr)
  | oraIzx (zp : Byte)
  | oraIzy (zp : Byte)
  | eorImm (imm : Byte)
  | eorZp (zp : Byte)
  | eorZpx (zp : Byte)
  | eorAbs (addr : Addr)
  | eorAbx (addr : Addr)
  | eorAby (addr : Addr)
  | eorIzx (zp : Byte)
  | eorIzy (zp : Byte)
  | bitZp (zp : Byte)
  | bitAbs (addr : Addr)
  | aslAcc
  | aslZp (zp : Byte)
  | aslZpx (zp : Byte)
  | aslAbs (addr : Addr)
  | aslAbx (addr : Addr)
  | lsrAcc
  | lsrZp (zp : Byte)
  | lsrZpx (zp : Byte)
  | lsrAbs (addr : Addr)
  | lsrAbx (addr : Addr)
  | rolAcc
  | rolZp (zp : Byte)
  | rolZpx (zp : Byte)
  | rolAbs (addr : Addr)
  | rolAbx (addr : Addr)
  | rorAcc
  | rorZp (zp : Byte)
  | rorZpx (zp : Byte)
  | rorAbs (addr : Addr)
  | rorAbx (addr : Addr)
  | incZp (zp : Byte)
  | incZpx (zp : Byte)
  | incAbs (addr : Addr)
  | incAbx (addr : Addr)
  | decZp (zp : Byte)
  | decZpx (zp : Byte)
  | decAbs (addr : Addr)
  | decAbx (addr : Addr)
  | inx
  | iny
  | dex
  | dey
  -- Control flow (44_control_flow.md)
  | bcc (rel : Byte)
  | bcs (rel : Byte)
  | beq (rel : Byte)
  | bne (rel : Byte)
  | bmi (rel : Byte)
  | bpl (rel : Byte)
  | bvc (rel : Byte)
  | bvs (rel : Byte)
  | jmpAbs (addr : Addr)
  | jmpInd (ptr : Addr)
  | jsr (addr : Addr)
  | rts
  -- Stack, flags, system (45_stack_flags_system.md)
  | pha
  | php
  | pla
  | plp
  | clc
  | cld
  | cli
  | clv
  | sec
  | sed
  | sei
  | nop
  | brk
  | rti
  deriving DecidableEq, Repr

end Sys2Proof
end

