-- ==== Sys2Proof/Decode.lean ====
section
/-! DEFINITION. The byte-order helpers, the decoder (30_encoding.md R60 to R69), total on any bytes and rejecting by
name, and the encoder. The opcode map is written row by row as R66 prints it, each row of the table carrying the format
and the base cycle count of opcode_table.json (R65, R244). -/

namespace Sys2Proof

/-- The 16-bit value of a low and a high byte, `{hi, lo}` (20_memory.md R43). -/
def wordOf (lo hi : Byte) : Addr := hi ++ lo

/-- The low byte of a 16-bit value. -/
def loByte (a : Addr) : Byte := a.extractLsb' 0 8

/-- The high byte of a 16-bit value. -/
def hiByte (a : Addr) : Byte := a.extractLsb' 8 8

/-- The length of a format in bytes, the opcode byte included (R61). -/
def Mode.length : Mode → Nat
  | .imp => 1
  | .acc => 1
  | .imm => 2
  | .zp => 2
  | .zpx => 2
  | .zpy => 2
  | .abs => 3
  | .abx => 3
  | .aby => 3
  | .izx => 2
  | .izy => 2
  | .ind => 3
  | .rel => 2

/-- A row of the opcode table, D0's descriptor (R65): the opcode byte, the format, the base cycle count and the
instruction built from the two bytes after the opcode (a format of one or two bytes ignores what it does not have). -/
structure OpRow where
  opcode : Byte
  mode : Mode
  cycles : Nat
  build : Byte → Byte → Instr

/-- A row without operand bytes. -/
def row0 (opcode : Byte) (mode : Mode) (cycles : Nat) (i : Instr) : OpRow := ⟨opcode, mode, cycles, fun _ _ => i⟩

/-- A row with one operand byte (R63: `imm8`, `zp8`, `rel8`). -/
def row1 (opcode : Byte) (mode : Mode) (cycles : Nat) (f : Byte → Instr) : OpRow := ⟨opcode, mode, cycles, fun b1 _ => f b1⟩

/-- A row with a 16-bit operand, low byte first (R63: `addr16`). -/
def row2 (opcode : Byte) (mode : Mode) (cycles : Nat) (f : Addr → Instr) : OpRow :=
  ⟨opcode, mode, cycles, fun b1 b2 => f (wordOf b1 b2)⟩

/-- Row 0x of the opcode map (R66). -/
def opcodeRow0 : List OpRow := [
  row0 0x00 .imp 7 .brk,
  row1 0x01 .izx 6 .oraIzx,
  row1 0x05 .zp 3 .oraZp,
  row1 0x06 .zp 5 .aslZp,
  row0 0x08 .imp 3 .php,
  row1 0x09 .imm 2 .oraImm,
  row0 0x0A .acc 2 .aslAcc,
  row2 0x0D .abs 4 .oraAbs,
  row2 0x0E .abs 6 .aslAbs]

/-- Row 1x of the opcode map (R66). -/
def opcodeRow1 : List OpRow := [
  row1 0x10 .rel 2 .bpl,
  row1 0x11 .izy 5 .oraIzy,
  row1 0x15 .zpx 4 .oraZpx,
  row1 0x16 .zpx 6 .aslZpx,
  row0 0x18 .imp 2 .clc,
  row2 0x19 .aby 4 .oraAby,
  row2 0x1D .abx 4 .oraAbx,
  row2 0x1E .abx 7 .aslAbx]

/-- Row 2x of the opcode map (R66). -/
def opcodeRow2 : List OpRow := [
  row2 0x20 .abs 6 .jsr,
  row1 0x21 .izx 6 .andIzx,
  row1 0x24 .zp 3 .bitZp,
  row1 0x25 .zp 3 .andZp,
  row1 0x26 .zp 5 .rolZp,
  row0 0x28 .imp 4 .plp,
  row1 0x29 .imm 2 .andImm,
  row0 0x2A .acc 2 .rolAcc,
  row2 0x2C .abs 4 .bitAbs,
  row2 0x2D .abs 4 .andAbs,
  row2 0x2E .abs 6 .rolAbs]

/-- Row 3x of the opcode map (R66). -/
def opcodeRow3 : List OpRow := [
  row1 0x30 .rel 2 .bmi,
  row1 0x31 .izy 5 .andIzy,
  row1 0x35 .zpx 4 .andZpx,
  row1 0x36 .zpx 6 .rolZpx,
  row0 0x38 .imp 2 .sec,
  row2 0x39 .aby 4 .andAby,
  row2 0x3D .abx 4 .andAbx,
  row2 0x3E .abx 7 .rolAbx]

/-- Row 4x of the opcode map (R66). -/
def opcodeRow4 : List OpRow := [
  row0 0x40 .imp 6 .rti,
  row1 0x41 .izx 6 .eorIzx,
  row1 0x45 .zp 3 .eorZp,
  row1 0x46 .zp 5 .lsrZp,
  row0 0x48 .imp 3 .pha,
  row1 0x49 .imm 2 .eorImm,
  row0 0x4A .acc 2 .lsrAcc,
  row2 0x4C .abs 3 .jmpAbs,
  row2 0x4D .abs 4 .eorAbs,
  row2 0x4E .abs 6 .lsrAbs]

/-- Row 5x of the opcode map (R66). -/
def opcodeRow5 : List OpRow := [
  row1 0x50 .rel 2 .bvc,
  row1 0x51 .izy 5 .eorIzy,
  row1 0x55 .zpx 4 .eorZpx,
  row1 0x56 .zpx 6 .lsrZpx,
  row0 0x58 .imp 2 .cli,
  row2 0x59 .aby 4 .eorAby,
  row2 0x5D .abx 4 .eorAbx,
  row2 0x5E .abx 7 .lsrAbx]

/-- Row 6x of the opcode map (R66). -/
def opcodeRow6 : List OpRow := [
  row0 0x60 .imp 6 .rts,
  row1 0x61 .izx 6 .adcIzx,
  row1 0x65 .zp 3 .adcZp,
  row1 0x66 .zp 5 .rorZp,
  row0 0x68 .imp 4 .pla,
  row1 0x69 .imm 2 .adcImm,
  row0 0x6A .acc 2 .rorAcc,
  row2 0x6C .ind 5 .jmpInd,
  row2 0x6D .abs 4 .adcAbs,
  row2 0x6E .abs 6 .rorAbs]

/-- Row 7x of the opcode map (R66). -/
def opcodeRow7 : List OpRow := [
  row1 0x70 .rel 2 .bvs,
  row1 0x71 .izy 5 .adcIzy,
  row1 0x75 .zpx 4 .adcZpx,
  row1 0x76 .zpx 6 .rorZpx,
  row0 0x78 .imp 2 .sei,
  row2 0x79 .aby 4 .adcAby,
  row2 0x7D .abx 4 .adcAbx,
  row2 0x7E .abx 7 .rorAbx]

/-- Row 8x of the opcode map (R66). -/
def opcodeRow8 : List OpRow := [
  row1 0x81 .izx 6 .staIzx,
  row1 0x84 .zp 3 .styZp,
  row1 0x85 .zp 3 .staZp,
  row1 0x86 .zp 3 .stxZp,
  row0 0x88 .imp 2 .dey,
  row0 0x8A .imp 2 .txa,
  row2 0x8C .abs 4 .styAbs,
  row2 0x8D .abs 4 .staAbs,
  row2 0x8E .abs 4 .stxAbs]

/-- Row 9x of the opcode map (R66). -/
def opcodeRow9 : List OpRow := [
  row1 0x90 .rel 2 .bcc,
  row1 0x91 .izy 6 .staIzy,
  row1 0x94 .zpx 4 .styZpx,
  row1 0x95 .zpx 4 .staZpx,
  row1 0x96 .zpy 4 .stxZpy,
  row0 0x98 .imp 2 .tya,
  row2 0x99 .aby 5 .staAby,
  row0 0x9A .imp 2 .txs,
  row2 0x9D .abx 5 .staAbx]

/-- Row Ax of the opcode map (R66). -/
def opcodeRowA : List OpRow := [
  row1 0xA0 .imm 2 .ldyImm,
  row1 0xA1 .izx 6 .ldaIzx,
  row1 0xA2 .imm 2 .ldxImm,
  row1 0xA4 .zp 3 .ldyZp,
  row1 0xA5 .zp 3 .ldaZp,
  row1 0xA6 .zp 3 .ldxZp,
  row0 0xA8 .imp 2 .tay,
  row1 0xA9 .imm 2 .ldaImm,
  row0 0xAA .imp 2 .tax,
  row2 0xAC .abs 4 .ldyAbs,
  row2 0xAD .abs 4 .ldaAbs,
  row2 0xAE .abs 4 .ldxAbs]

/-- Row Bx of the opcode map (R66). -/
def opcodeRowB : List OpRow := [
  row1 0xB0 .rel 2 .bcs,
  row1 0xB1 .izy 5 .ldaIzy,
  row1 0xB4 .zpx 4 .ldyZpx,
  row1 0xB5 .zpx 4 .ldaZpx,
  row1 0xB6 .zpy 4 .ldxZpy,
  row0 0xB8 .imp 2 .clv,
  row2 0xB9 .aby 4 .ldaAby,
  row0 0xBA .imp 2 .tsx,
  row2 0xBC .abx 4 .ldyAbx,
  row2 0xBD .abx 4 .ldaAbx,
  row2 0xBE .aby 4 .ldxAby]

/-- Row Cx of the opcode map (R66). -/
def opcodeRowC : List OpRow := [
  row1 0xC0 .imm 2 .cpyImm,
  row1 0xC1 .izx 6 .cmpIzx,
  row1 0xC4 .zp 3 .cpyZp,
  row1 0xC5 .zp 3 .cmpZp,
  row1 0xC6 .zp 5 .decZp,
  row0 0xC8 .imp 2 .iny,
  row1 0xC9 .imm 2 .cmpImm,
  row0 0xCA .imp 2 .dex,
  row2 0xCC .abs 4 .cpyAbs,
  row2 0xCD .abs 4 .cmpAbs,
  row2 0xCE .abs 6 .decAbs]

/-- Row Dx of the opcode map (R66). -/
def opcodeRowD : List OpRow := [
  row1 0xD0 .rel 2 .bne,
  row1 0xD1 .izy 5 .cmpIzy,
  row1 0xD5 .zpx 4 .cmpZpx,
  row1 0xD6 .zpx 6 .decZpx,
  row0 0xD8 .imp 2 .cld,
  row2 0xD9 .aby 4 .cmpAby,
  row2 0xDD .abx 4 .cmpAbx,
  row2 0xDE .abx 7 .decAbx]

/-- Row Ex of the opcode map (R66). -/
def opcodeRowE : List OpRow := [
  row1 0xE0 .imm 2 .cpxImm,
  row1 0xE1 .izx 6 .sbcIzx,
  row1 0xE4 .zp 3 .cpxZp,
  row1 0xE5 .zp 3 .sbcZp,
  row1 0xE6 .zp 5 .incZp,
  row0 0xE8 .imp 2 .inx,
  row1 0xE9 .imm 2 .sbcImm,
  row0 0xEA .imp 2 .nop,
  row2 0xEC .abs 4 .cpxAbs,
  row2 0xED .abs 4 .sbcAbs,
  row2 0xEE .abs 6 .incAbs]

/-- Row Fx of the opcode map (R66). -/
def opcodeRowF : List OpRow := [
  row1 0xF0 .rel 2 .beq,
  row1 0xF1 .izy 5 .sbcIzy,
  row1 0xF5 .zpx 4 .sbcZpx,
  row1 0xF6 .zpx 6 .incZpx,
  row0 0xF8 .imp 2 .sed,
  row2 0xF9 .aby 4 .sbcAby,
  row2 0xFD .abx 4 .sbcAbx,
  row2 0xFE .abx 7 .incAbx]

/-- The opcode table: 151 rows (R66), "built once, immutable thereafter" (R64). -/
def opcodeTable : List OpRow :=
  opcodeRow0 ++ opcodeRow1 ++ opcodeRow2 ++ opcodeRow3 ++ opcodeRow4 ++ opcodeRow5 ++ opcodeRow6 ++ opcodeRow7 ++
  opcodeRow8 ++ opcodeRow9 ++ opcodeRowA ++ opcodeRowB ++ opcodeRowC ++ opcodeRowD ++ opcodeRowE ++ opcodeRowF

/-- The row of an opcode byte, `none` for `Unknown` (R64). -/
def opcodeLookup (b : Byte) : Option OpRow := opcodeTable.find? (fun r => r.opcode == b)

/-- Why bytes are no instruction. -/
inductive DecodeError where
  /-- The opcode byte is one of the 105 bytes of R68. -/
  | unknownOpcode (byte : Byte)
  /-- The string of bytes ends before the instruction does (it never does in memory, which has no end, R86). -/
  | truncated
  deriving DecidableEq, Repr

/-- `Decode` (R64) on an opcode byte and the two bytes after it. A byte after the instruction's own is not looked at. -/
def decode (b0 b1 b2 : Byte) : Except DecodeError Instr :=
  match opcodeLookup b0 with
  | some r => .ok (r.build b1 b2)
  | none => .error (.unknownOpcode b0)

/-- The decoder on a string of bytes: the first instruction and the bytes after it, or the reason there is none. -/
def decodeBytes : List Byte → Except DecodeError (Instr × List Byte)
  | [] => .error .truncated
  | b0 :: rest =>
    match opcodeLookup b0 with
    | none => .error (.unknownOpcode b0)
    | some r =>
      if rest.length + 1 < r.mode.length then .error .truncated
      else .ok (r.build (rest.getD 0 0) (rest.getD 1 0), rest.drop (r.mode.length - 1))

/-- The encoder (R62, R66): the bytes of an instruction in address order, its opcode byte first. -/
def encode : Instr → List Byte
  -- Load, store and transfer (41_load_store_transfer.md)
  | .ldaImm imm => [0xA9, imm]
  | .ldaZp zp => [0xA5, zp]
  | .ldaZpx zp => [0xB5, zp]
  | .ldaAbs addr => [0xAD, loByte addr, hiByte addr]
  | .ldaAbx addr => [0xBD, loByte addr, hiByte addr]
  | .ldaAby addr => [0xB9, loByte addr, hiByte addr]
  | .ldaIzx zp => [0xA1, zp]
  | .ldaIzy zp => [0xB1, zp]
  | .ldxImm imm => [0xA2, imm]
  | .ldxZp zp => [0xA6, zp]
  | .ldxZpy zp => [0xB6, zp]
  | .ldxAbs addr => [0xAE, loByte addr, hiByte addr]
  | .ldxAby addr => [0xBE, loByte addr, hiByte addr]
  | .ldyImm imm => [0xA0, imm]
  | .ldyZp zp => [0xA4, zp]
  | .ldyZpx zp => [0xB4, zp]
  | .ldyAbs addr => [0xAC, loByte addr, hiByte addr]
  | .ldyAbx addr => [0xBC, loByte addr, hiByte addr]
  | .staZp zp => [0x85, zp]
  | .staZpx zp => [0x95, zp]
  | .staAbs addr => [0x8D, loByte addr, hiByte addr]
  | .staAbx addr => [0x9D, loByte addr, hiByte addr]
  | .staAby addr => [0x99, loByte addr, hiByte addr]
  | .staIzx zp => [0x81, zp]
  | .staIzy zp => [0x91, zp]
  | .stxZp zp => [0x86, zp]
  | .stxZpy zp => [0x96, zp]
  | .stxAbs addr => [0x8E, loByte addr, hiByte addr]
  | .styZp zp => [0x84, zp]
  | .styZpx zp => [0x94, zp]
  | .styAbs addr => [0x8C, loByte addr, hiByte addr]
  | .tax => [0xAA]
  | .tay => [0xA8]
  | .tsx => [0xBA]
  | .txa => [0x8A]
  | .txs => [0x9A]
  | .tya => [0x98]
  -- Arithmetic and compare (42_arithmetic_compare.md)
  | .adcImm imm => [0x69, imm]
  | .adcZp zp => [0x65, zp]
  | .adcZpx zp => [0x75, zp]
  | .adcAbs addr => [0x6D, loByte addr, hiByte addr]
  | .adcAbx addr => [0x7D, loByte addr, hiByte addr]
  | .adcAby addr => [0x79, loByte addr, hiByte addr]
  | .adcIzx zp => [0x61, zp]
  | .adcIzy zp => [0x71, zp]
  | .sbcImm imm => [0xE9, imm]
  | .sbcZp zp => [0xE5, zp]
  | .sbcZpx zp => [0xF5, zp]
  | .sbcAbs addr => [0xED, loByte addr, hiByte addr]
  | .sbcAbx addr => [0xFD, loByte addr, hiByte addr]
  | .sbcAby addr => [0xF9, loByte addr, hiByte addr]
  | .sbcIzx zp => [0xE1, zp]
  | .sbcIzy zp => [0xF1, zp]
  | .cmpImm imm => [0xC9, imm]
  | .cmpZp zp => [0xC5, zp]
  | .cmpZpx zp => [0xD5, zp]
  | .cmpAbs addr => [0xCD, loByte addr, hiByte addr]
  | .cmpAbx addr => [0xDD, loByte addr, hiByte addr]
  | .cmpAby addr => [0xD9, loByte addr, hiByte addr]
  | .cmpIzx zp => [0xC1, zp]
  | .cmpIzy zp => [0xD1, zp]
  | .cpxImm imm => [0xE0, imm]
  | .cpxZp zp => [0xE4, zp]
  | .cpxAbs addr => [0xEC, loByte addr, hiByte addr]
  | .cpyImm imm => [0xC0, imm]
  | .cpyZp zp => [0xC4, zp]
  | .cpyAbs addr => [0xCC, loByte addr, hiByte addr]
  -- Logic, shift, increment (43_logic_shift_incdec.md)
  | .andImm imm => [0x29, imm]
  | .andZp zp => [0x25, zp]
  | .andZpx zp => [0x35, zp]
  | .andAbs addr => [0x2D, loByte addr, hiByte addr]
  | .andAbx addr => [0x3D, loByte addr, hiByte addr]
  | .andAby addr => [0x39, loByte addr, hiByte addr]
  | .andIzx zp => [0x21, zp]
  | .andIzy zp => [0x31, zp]
  | .oraImm imm => [0x09, imm]
  | .oraZp zp => [0x05, zp]
  | .oraZpx zp => [0x15, zp]
  | .oraAbs addr => [0x0D, loByte addr, hiByte addr]
  | .oraAbx addr => [0x1D, loByte addr, hiByte addr]
  | .oraAby addr => [0x19, loByte addr, hiByte addr]
  | .oraIzx zp => [0x01, zp]
  | .oraIzy zp => [0x11, zp]
  | .eorImm imm => [0x49, imm]
  | .eorZp zp => [0x45, zp]
  | .eorZpx zp => [0x55, zp]
  | .eorAbs addr => [0x4D, loByte addr, hiByte addr]
  | .eorAbx addr => [0x5D, loByte addr, hiByte addr]
  | .eorAby addr => [0x59, loByte addr, hiByte addr]
  | .eorIzx zp => [0x41, zp]
  | .eorIzy zp => [0x51, zp]
  | .bitZp zp => [0x24, zp]
  | .bitAbs addr => [0x2C, loByte addr, hiByte addr]
  | .aslAcc => [0x0A]
  | .aslZp zp => [0x06, zp]
  | .aslZpx zp => [0x16, zp]
  | .aslAbs addr => [0x0E, loByte addr, hiByte addr]
  | .aslAbx addr => [0x1E, loByte addr, hiByte addr]
  | .lsrAcc => [0x4A]
  | .lsrZp zp => [0x46, zp]
  | .lsrZpx zp => [0x56, zp]
  | .lsrAbs addr => [0x4E, loByte addr, hiByte addr]
  | .lsrAbx addr => [0x5E, loByte addr, hiByte addr]
  | .rolAcc => [0x2A]
  | .rolZp zp => [0x26, zp]
  | .rolZpx zp => [0x36, zp]
  | .rolAbs addr => [0x2E, loByte addr, hiByte addr]
  | .rolAbx addr => [0x3E, loByte addr, hiByte addr]
  | .rorAcc => [0x6A]
  | .rorZp zp => [0x66, zp]
  | .rorZpx zp => [0x76, zp]
  | .rorAbs addr => [0x6E, loByte addr, hiByte addr]
  | .rorAbx addr => [0x7E, loByte addr, hiByte addr]
  | .incZp zp => [0xE6, zp]
  | .incZpx zp => [0xF6, zp]
  | .incAbs addr => [0xEE, loByte addr, hiByte addr]
  | .incAbx addr => [0xFE, loByte addr, hiByte addr]
  | .decZp zp => [0xC6, zp]
  | .decZpx zp => [0xD6, zp]
  | .decAbs addr => [0xCE, loByte addr, hiByte addr]
  | .decAbx addr => [0xDE, loByte addr, hiByte addr]
  | .inx => [0xE8]
  | .iny => [0xC8]
  | .dex => [0xCA]
  | .dey => [0x88]
  -- Control flow (44_control_flow.md)
  | .bcc rel => [0x90, rel]
  | .bcs rel => [0xB0, rel]
  | .beq rel => [0xF0, rel]
  | .bne rel => [0xD0, rel]
  | .bmi rel => [0x30, rel]
  | .bpl rel => [0x10, rel]
  | .bvc rel => [0x50, rel]
  | .bvs rel => [0x70, rel]
  | .jmpAbs addr => [0x4C, loByte addr, hiByte addr]
  | .jmpInd ptr => [0x6C, loByte ptr, hiByte ptr]
  | .jsr addr => [0x20, loByte addr, hiByte addr]
  | .rts => [0x60]
  -- Stack, flags, system (45_stack_flags_system.md)
  | .pha => [0x48]
  | .php => [0x08]
  | .pla => [0x68]
  | .plp => [0x28]
  | .clc => [0x18]
  | .cld => [0xD8]
  | .cli => [0x58]
  | .clv => [0xB8]
  | .sec => [0x38]
  | .sed => [0xF8]
  | .sei => [0x78]
  | .nop => [0xEA]
  | .brk => [0x00]
  | .rti => [0x40]

/-- The opcode byte of an instruction. -/
def Instr.opcode (i : Instr) : Byte := (encode i).headD 0

/-- The number of bytes of an instruction (R61). -/
def Instr.length (i : Instr) : Nat := (encode i).length

/-- The format of an instruction, as its row of the table gives it (R65). -/
def Instr.mode (i : Instr) : Mode :=
  match opcodeLookup i.opcode with
  | some r => r.mode
  | none => .imp

/-- The mnemonic of an instruction (R65). -/
def Instr.mnemonic : Instr → Mnemonic
  -- Load, store and transfer (41_load_store_transfer.md)
  | .ldaImm _ | .ldaZp _ | .ldaZpx _ | .ldaAbs _ | .ldaAbx _ | .ldaAby _ | .ldaIzx _ | .ldaIzy _ => .lda
  | .ldxImm _ | .ldxZp _ | .ldxZpy _ | .ldxAbs _ | .ldxAby _ => .ldx
  | .ldyImm _ | .ldyZp _ | .ldyZpx _ | .ldyAbs _ | .ldyAbx _ => .ldy
  | .staZp _ | .staZpx _ | .staAbs _ | .staAbx _ | .staAby _ | .staIzx _ | .staIzy _ => .sta
  | .stxZp _ | .stxZpy _ | .stxAbs _ => .stx
  | .styZp _ | .styZpx _ | .styAbs _ => .sty
  | .tax => .tax
  | .tay => .tay
  | .tsx => .tsx
  | .txa => .txa
  | .txs => .txs
  | .tya => .tya
  -- Arithmetic and compare (42_arithmetic_compare.md)
  | .adcImm _ | .adcZp _ | .adcZpx _ | .adcAbs _ | .adcAbx _ | .adcAby _ | .adcIzx _ | .adcIzy _ => .adc
  | .sbcImm _ | .sbcZp _ | .sbcZpx _ | .sbcAbs _ | .sbcAbx _ | .sbcAby _ | .sbcIzx _ | .sbcIzy _ => .sbc
  | .cmpImm _ | .cmpZp _ | .cmpZpx _ | .cmpAbs _ | .cmpAbx _ | .cmpAby _ | .cmpIzx _ | .cmpIzy _ => .cmp
  | .cpxImm _ | .cpxZp _ | .cpxAbs _ => .cpx
  | .cpyImm _ | .cpyZp _ | .cpyAbs _ => .cpy
  -- Logic, shift, increment (43_logic_shift_incdec.md)
  | .andImm _ | .andZp _ | .andZpx _ | .andAbs _ | .andAbx _ | .andAby _ | .andIzx _ | .andIzy _ => .and
  | .oraImm _ | .oraZp _ | .oraZpx _ | .oraAbs _ | .oraAbx _ | .oraAby _ | .oraIzx _ | .oraIzy _ => .ora
  | .eorImm _ | .eorZp _ | .eorZpx _ | .eorAbs _ | .eorAbx _ | .eorAby _ | .eorIzx _ | .eorIzy _ => .eor
  | .bitZp _ | .bitAbs _ => .bit
  | .aslAcc | .aslZp _ | .aslZpx _ | .aslAbs _ | .aslAbx _ => .asl
  | .lsrAcc | .lsrZp _ | .lsrZpx _ | .lsrAbs _ | .lsrAbx _ => .lsr
  | .rolAcc | .rolZp _ | .rolZpx _ | .rolAbs _ | .rolAbx _ => .rol
  | .rorAcc | .rorZp _ | .rorZpx _ | .rorAbs _ | .rorAbx _ => .ror
  | .incZp _ | .incZpx _ | .incAbs _ | .incAbx _ => .inc
  | .decZp _ | .decZpx _ | .decAbs _ | .decAbx _ => .dec
  | .inx => .inx
  | .iny => .iny
  | .dex => .dex
  | .dey => .dey
  -- Control flow (44_control_flow.md)
  | .bcc _ => .bcc
  | .bcs _ => .bcs
  | .beq _ => .beq
  | .bne _ => .bne
  | .bmi _ => .bmi
  | .bpl _ => .bpl
  | .bvc _ => .bvc
  | .bvs _ => .bvs
  | .jmpAbs _ | .jmpInd _ => .jmp
  | .jsr _ => .jsr
  | .rts => .rts
  -- Stack, flags, system (45_stack_flags_system.md)
  | .pha => .pha
  | .php => .php
  | .pla => .pla
  | .plp => .plp
  | .clc => .clc
  | .cld => .cld
  | .cli => .cli
  | .clv => .clv
  | .sec => .sec
  | .sed => .sed
  | .sei => .sei
  | .nop => .nop
  | .brk => .brk
  | .rti => .rti

/-- Byte `k` of an instruction word that opcode_table.json numbers from its first byte, whose bits above `nbits` are 0. -/
def tableByte (nbits w k : Nat) : Byte := BitVec.ofNat 8 ((w % 2 ^ nbits) >>> (8 * k))

/-- The decoder on a word numbered as opcode_table.json numbers it: byte 0, the opcode, in bits 7..0. -/
def decodeTableWord (nbits w : Nat) : Option Instr :=
  match decode (tableByte nbits w 0) (tableByte nbits w 1) (tableByte nbits w 2) with
  | .ok i => some i
  | .error _ => none

end Sys2Proof
end

