-- ==== Sys2Proof/Machine/Memory.lean ====
section
/-! DEFINITION. `MEM`: one flat memory of 65536 bytes (10_state.md R24, 20_memory.md R40 to R49), kept as the list of
the cells that differ from the fill byte, at strictly rising addresses. -/

namespace Sys2Proof.Machine

/-- `VEC_NMI` (00_scope.md R4). -/
def vecNmi : Addr := 0xFFFA

/-- `VEC_RESET` (R4). -/
def vecReset : Addr := 0xFFFC

/-- `VEC_IRQ`, shared with BRK (R4). -/
def vecIrq : Addr := 0xFFFE

/-- The memory: the cells that do not hold the fill byte, addresses rising. -/
abbrev Memory := List Host.Cell

namespace Memory

/-- What an address that no cell lists reads as. Log entry 4. -/
def unlisted : Byte := Config.fillByte

/-- The canonical form: addresses strictly rising, every address inside the 16-bit space, no cell equal to what an
unlisted address reads as. -/
abbrev wf (m : Memory) : Prop :=
  m.Pairwise (fun c d => c.1 < d.1) ∧ ∀ c ∈ m, c.1 < 0x10000 ∧ c.2 ≠ unlisted

/-- The byte at a cell number. -/
def readCell : Memory → Nat → Byte
  | [], _ => unlisted
  | c :: m, k => if c.1 = k then c.2 else readCell m k

/-- Put a cell before the first cell of a higher address. -/
def insertCell (c : Host.Cell) : Memory → Memory
  | [] => [c]
  | d :: m => if c.1 < d.1 then c :: d :: m else d :: insertCell c m

/-- Take every cell of one number out. -/
def dropCell (k : Nat) (m : Memory) : Memory := m.filter (fun c => c.1 != k)

/-- Store a byte at a cell number: the old cell goes, the new one is listed unless it holds the fill byte. -/
def writeCell (m : Memory) (k : Nat) (v : Byte) : Memory :=
  if v = unlisted then dropCell k m else insertCell (k, v) (dropCell k m)

/-- `MemRead(addr, 1)` (R41): every address resolves, no fault, no side effect. -/
def read (m : Memory) (a : Addr) : Byte := readCell m a.toNat

/-- `MemWrite(addr, 1, v)` (R42): that byte and no other; no read-only region. -/
def write (m : Memory) (a : Addr) (v : Byte) : Memory := writeCell m a.toNat v

/-- `Read16(lo_addr, hi_addr)` (R44): two byte reads at two addresses the caller gives. -/
def read16 (m : Memory) (loAddr hiAddr : Addr) : Addr := wordOf (read m loAddr) (read m hiAddr)

end Memory

end Sys2Proof.Machine
end

