-- ==== Sys2Proof/Machine/State.lean ====
section
/-! DEFINITION. The whole state of the block (10_state.md section 1), the reasons a step can stop, and reset
(70_reset_and_hazards.md R230 to R233). -/

namespace Sys2Proof.Machine

/-- The seven status flags, each one independent bit (R15). There is no eighth: bit 5 of the status byte has no
storage, and `P` is a packed view, not a register (R17, R18). -/
@[ext]
structure Flags where
  /-- carry -/
  c : Bool
  /-- zero -/
  z : Bool
  /-- interrupt disable -/
  i : Bool
  /-- decimal mode -/
  d : Bool
  /-- break; written by PLP, RTI and reset only, read by nothing (R19) -/
  b : Bool
  /-- overflow -/
  v : Bool
  /-- negative -/
  n : Bool
  deriving DecidableEq, Repr

/-- The record of the unknown-opcode fault: the byte and the address it was fetched from (R23). -/
structure FaultRecord where
  byte : Byte
  pc : Addr
  deriving DecidableEq, Repr

/-- The OPEN parameters of R4 that are straps of the block: held constant, written by no instruction and no reset.
`cycleExceptions` lists the opcodes whose `BASE_CYCLES` differs from the default table of R244. Log entries 1 and 3. -/
structure Straps where
  haltOnBreak : Bool
  decimalEnable : Bool
  cycleExceptions : List (Nat × Nat)
  deriving DecidableEq, Repr

/-- The state of the block and its memory. `stopReq` is the `stop_req` input of an iteration (R80, R81), held here so
that a step is a function of the state. Log entry 6. -/
@[ext]
structure State where
  /-- accumulator (R10) -/
  a : Byte
  /-- index register X (R11) -/
  x : Byte
  /-- index register Y (R12) -/
  y : Byte
  /-- stack pointer, the low byte of an address in page 1 (R13) -/
  sp : Byte
  /-- program counter (R14) -/
  pc : Addr
  /-- the seven flags (R15) -/
  flags : Flags
  /-- `RUNNING` (R20) -/
  running : Bool
  /-- `IRQ_PENDING` (R21) -/
  irqPending : Bool
  /-- `NMI_PENDING` (R22) -/
  nmiPending : Bool
  /-- the stop request input (R81) -/
  stopReq : Bool
  /-- `FAULT` (R23) -/
  fault : Option FaultRecord
  /-- `MEM` (R24) -/
  mem : Memory
  /-- `CYC`, the cycle total (R25) -/
  cyc : Nat
  /-- the straps (R4) -/
  straps : Straps
  deriving DecidableEq, Repr

/-- The reasons a step ends in a fault: NONE, safe. The block's one fault, `UnknownOpcode(byte, pc)`, has a whole
effect on the state (`RUNNING <- 0`, `FAULT <- (byte, pc)`, R201) and is taken as a next state; R202: "There is no other
synchronous exception". Log entry 7. -/
inductive Fault where
  deriving DecidableEq, Repr

/-- The reasons a step has no meaning to give. -/
inductive Refusal where
  /-- Raised by `exec` alone, for an instruction that has no meaning in the model yet; no arm raises it now. Safe: the
  run stops. -/
  | notModelled (mnemonic : String)
  deriving DecidableEq, Repr

/-- What an instruction or a step answers. -/
abbrev Result := Host.Outcome State Fault Refusal

/-- The flags when reset is released (R16, R232): `I` set, the others clear. -/
def Flags.reset : Flags :=
  { c := false, z := false, i := true, d := false, b := false, v := false, n := false }

/-- Reset released over the memory image that is in place (R230, R231, R235): nothing is pushed, `PC` is the
little-endian value of the reset vector, memory stays. -/
def State.resetOver (straps : Straps) (image : Memory) : State :=
  { a := 0x00
    x := 0x00
    y := 0x00
    sp := 0xFF
    pc := image.read16 vecReset (vecReset + 1)
    flags := Flags.reset
    running := true
    irqPending := false
    nmiPending := false
    stopReq := false
    fault := none
    mem := image
    cyc := 0
    straps := straps }

/-- The straps of `State.reset`: the two OPEN switches at their opaque values, the cycle table at its default (R244).
Log entries 1 and 3. -/
def Straps.reset : Straps :=
  { haltOnBreak := Config.haltOnBreak
    decimalEnable := Config.decimalEnable
    cycleExceptions := [] }

/-- The machine right after reset with nothing placed in memory (log entry 4: the zero fill). -/
def State.reset : State := State.resetOver Straps.reset []

end Sys2Proof.Machine
end

