-- ==== Sys2Proof/Machine/Flags.lean ====
section
/-! DEFINITION. Every flag computation: `SetZN`, the packing of the status byte, the ALU's add and subtract in both
modes, compares, BIT, shifts and rotates. -/

namespace Sys2Proof.Machine

/-- The `Z` of `SetZN(v)` (40_sequencer_addressing.md R100). -/
def zeroOf (v : Byte) : Bool := v == 0

/-- The `N` of `SetZN(v)`: bit 7 (R100). -/
def negOf (v : Byte) : Bool := v.getLsbD 7

/-- `SetZN(v)` (R100): `Z` and `N` from the byte, no other flag. -/
def Flags.setZN (f : Flags) (v : Byte) : Flags := { f with z := zeroOf v, n := negOf v }

/-- `PackP(b)` (10_state.md R17): bits 7 to 0 are N, V, 1, `b`, D, I, Z, C. The state flag `B` is not looked at. -/
def Flags.pack (f : Flags) (b : Bool) : Byte :=
  BitVec.ofBool f.n ++ BitVec.ofBool f.v ++ 1#1 ++ BitVec.ofBool b ++
    BitVec.ofBool f.d ++ BitVec.ofBool f.i ++ BitVec.ofBool f.z ++ BitVec.ofBool f.c

/-- `UnpackP(v)` (R18): all seven flags from the byte; bit 5 is ignored. -/
def Flags.unpack (v : Byte) : Flags :=
  { c := v.getLsbD 0
    z := v.getLsbD 1
    i := v.getLsbD 2
    d := v.getLsbD 3
    b := v.getLsbD 4
    v := v.getLsbD 6
    n := v.getLsbD 7 }

/-- The flags ADC and SBC write (42_arithmetic_compare.md R130, R131). -/
def Flags.setAlu (f : Flags) (r : AluResult) : Flags := { f with c := r.c, z := r.z, n := r.n, v := r.v }

/-- `AdcBinary(m)` (R135) on `a`, the operand and the carry in: computed without a bound, then narrowed; `V` by the
rule's own comparisons with 0x80. -/
def adcBinary (a m : Byte) (c : Bool) : AluResult :=
  let sum := a.toNat + m.toNat + c.toNat
  let r := BitVec.ofNat 8 sum
  { value := r
    c := decide (0xFF < sum)
    z := zeroOf r
    n := negOf r
    v := (decide (m.toNat < 0x80) && decide (a.toNat < 0x80) && decide (0x80 ≤ r.toNat)) ||
      (decide (0x80 ≤ m.toNat) && decide (0x80 ≤ a.toNat) && decide (r.toNat < 0x80)) }

/-- `BCDval(b)` (R136): ten times the high nibble plus the low nibble. -/
def bcdVal (b : Byte) : Nat := 10 * (b.toNat / 16) + b.toNat % 16

/-- `BCDenc(n)` (R136), for `n` at most 99. -/
def bcdEnc (n : Nat) : Byte := BitVec.ofNat 8 (((n / 10) <<< 4) ||| (n % 10))

/-- Both nibbles are at most 9 (R136). -/
def validBcd (b : Byte) : Bool := decide (b.toNat / 16 ≤ 9) && decide (b.toNat % 16 ≤ 9)

/-- `AdcDecimal(m)` (R136): wraps at 100, carry iff above 99, `Z` and `N` from the final byte (D8), `V` and the result
on invalid digits are free values (log entry 2). -/
def adcDecimal (a m : Byte) (c : Bool) : AluResult :=
  if validBcd a && validBcd m then
    let s := bcdVal a + bcdVal m + c.toNat
    let r := bcdEnc (if 99 < s then s - 100 else s)
    { value := r, c := decide (99 < s), z := zeroOf r, n := negOf r, v := Config.decimalV a m c .adc }
  else Config.invalidBcd a m c .adc

/-- `SbcDecimal(m)` (R137): the borrow is the complement of the carry, in and out (D8); free values as for ADC. -/
def sbcDecimal (a m : Byte) (c : Bool) : AluResult :=
  if validBcd a && validBcd m then
    let d : Int := (bcdVal a : Int) - bcdVal m - (1 - c.toNat)
    let r := bcdEnc (if d < 0 then d + 100 else d).toNat
    { value := r, c := decide (0 ≤ d), z := zeroOf r, n := negOf r, v := Config.decimalV a m c .sbc }
  else Config.invalidBcd a m c .sbc

/-- ADC's two paths (R130). -/
def aluAdc (decimal : Bool) (a m : Byte) (c : Bool) : AluResult :=
  if decimal then adcDecimal a m c else adcBinary a m c

/-- SBC's two paths (R131): the binary one adds the one's complement of the operand. -/
def aluSbc (decimal : Bool) (a m : Byte) (c : Bool) : AluResult :=
  if decimal then sbcDecimal a m c else adcBinary a (m ^^^ 0xFF) c

/-- `Compare(reg, m)` (R139): `N` is bit 7 of the 8-bit difference (D9), `C` the unsigned comparison. -/
def Flags.compare (f : Flags) (reg m : Byte) : Flags :=
  { f with z := reg == m, n := negOf (reg - m), c := decide (m.toNat ≤ reg.toNat) }

/-- BIT (43_logic_shift_incdec.md R143): `Z` from the AND, `N` and `V` from bits 7 and 6 of the operand. -/
def Flags.bitTest (f : Flags) (a m : Byte) : Flags :=
  { f with z := zeroOf (a &&& m), n := m.getLsbD 7, v := m.getLsbD 6 }

/-- ASL (R144): the shifted byte and the bit shifted out. -/
def aslByte (t : Byte) : Byte × Bool := (t <<< 1, t.getLsbD 7)

/-- LSR (R145). -/
def lsrByte (t : Byte) : Byte × Bool := (t >>> 1, t.getLsbD 0)

/-- ROL (R146): the carry in enters bit 0. -/
def rolByte (cIn : Bool) (t : Byte) : Byte × Bool := ((t <<< 1) ||| BitVec.ofNat 8 cIn.toNat, t.getLsbD 7)

/-- ROR (R147): the carry in enters bit 7. -/
def rorByte (cIn : Bool) (t : Byte) : Byte × Bool := ((t >>> 1) ||| BitVec.ofNat 8 (cIn.toNat <<< 7), t.getLsbD 0)

/-- The flags a shift or rotate writes (R144 to R147): `C` the bit shifted out, `Z` and `N` from the final byte. -/
def Flags.setShift (f : Flags) (r : Byte × Bool) : Flags := Flags.setZN { f with c := r.2 } r.1

end Sys2Proof.Machine
end

