-- ==== Sys2Proof/Machine/Ops.lean ====
section
/-! DEFINITION. The named operations over registers and memory that the meanings are written with: register writes,
byte reads and writes, the stack helper, interrupt entry and return, and the program-counter update. -/

namespace Sys2Proof.Machine

namespace State

/-- `A <- v` -/
def setA (s : State) (v : Byte) : State := { s with a := v }

/-- `X <- v` -/
def setX (s : State) (v : Byte) : State := { s with x := v }

/-- `Y <- v` -/
def setY (s : State) (v : Byte) : State := { s with y := v }

/-- `SP <- v` -/
def setSp (s : State) (v : Byte) : State := { s with sp := v }

/-- `PC <- target`, the net value (00_scope.md R7). -/
def setPc (s : State) (target : Addr) : State := { s with pc := target }

/-- Write flags. -/
def setFlags (s : State) (f : Flags) : State := { s with flags := f }

/-- `SetZN(v)` (40_sequencer_addressing.md R100). -/
def setZN (s : State) (v : Byte) : State := s.setFlags (s.flags.setZN v)

/-- `MemRead(addr, 1)` (20_memory.md R41). -/
def readByte (s : State) (a : Addr) : Byte := s.mem.read a

/-- `Read16(lo_addr, hi_addr)` (R44). -/
def read16 (s : State) (loAddr hiAddr : Addr) : Addr := s.mem.read16 loAddr hiAddr

/-- `MemWrite(addr, 1, v)` (R42). -/
def writeByte (s : State) (a : Addr) (v : Byte) : State := { s with mem := s.mem.write a v }

/-- The stack location a stack pointer designates, `{0x01, sp}` (R52, 10_state.md R13). -/
def stackAddr (sp : Byte) : Addr := wordOf sp 0x01

/-- `Push(b)` (R52): write at `0x0100 + SP`, then decrement `SP`, wrapping in the page. -/
def push (s : State) (v : Byte) : State := (s.writeByte (stackAddr s.sp) v).setSp (s.sp - 1)

/-- The state after `Pull()` (R53): `SP` incremented first, wrapping in the page. -/
def pulled (s : State) : State := s.setSp (s.sp + 1)

/-- The byte `Pull()` returns (R53): the address uses the incremented `SP`. -/
def pullByte (s : State) : Byte := s.readByte (stackAddr (s.sp + 1))

/-- Push a 16-bit value, high byte first (R45). -/
def pushWord (s : State) (w : Addr) : State := (s.push (hiByte w)).push (loByte w)

/-- The 16-bit value two pulls return, low byte first (R45). -/
def pullWord (s : State) : Addr := wordOf s.pullByte s.pulled.pullByte

/-- Step (5) for an instruction that does not write `PC` itself (R85): past the bytes of its format, modulo 65536. -/
def advance (s : State) (m : Mode) : State := s.setPc (s.pc + BitVec.ofNat 16 m.length)

/-- Push what an interrupt entry saves: the return address, high byte first, then the status with bit 4 as given and the
`I` of before (60_exceptions.md R210). -/
def pushFrame (s : State) (ret : Addr) (breakBit : Bool) : State := (s.pushWord ret).push (s.flags.pack breakBit)

/-- The entry shared by NMI, IRQ and BRK (R210, 45_stack_flags_system.md R196): push the frame, set `I`, load `PC` from
the vector. `D` and the state flag `B` are not touched. -/
def enterInterrupt (s : State) (ret : Addr) (breakBit : Bool) (vector : Addr) : State :=
  ((s.pushFrame ret breakBit).setFlags { s.flags with i := true }).setPc
    ((s.pushFrame ret breakBit).read16 vector (vector + 1))

/-- The return from an interrupt, RTI's effect (R197, R214): status first, then `PC` low, then `PC` high; the pulled
address itself, no increment. -/
def returnFromInterrupt (s : State) : State :=
  (s.pulled.pulled.pulled.setFlags (Flags.unpack s.pullByte)).setPc s.pulled.pullWord

/-- `Service(vec)` (R210): the `PC` pushed is the one of the instruction boundary, bit 4 is 0. -/
def service (s : State) (vector : Addr) : State := s.enterInterrupt s.pc false vector

end State

end Sys2Proof.Machine
end

