-- ==== Sys2Proof/Machine/Operands.lean ====
section
/-! DEFINITION. The addressing-mode resolver (40_sequencer_addressing.md R87 to R98): one effective address per format,
from the operand the instruction carries. -/

namespace Sys2Proof.Machine

namespace State

/-- A byte as an address in page zero (00_scope.md R6 `zext_16`). -/
def zeroPage (b : Byte) : Addr := wordOf b 0x00

/-- `EA_ZP` (R89). -/
def eaZp (_ : State) (zp : Byte) : Addr := zeroPage zp

/-- `EA_ZPX` (R90): the sum wraps inside page zero. -/
def eaZpx (s : State) (zp : Byte) : Addr := zeroPage (zp + s.x)

/-- `EA_ZPY` (R91): the sum wraps inside page zero. -/
def eaZpy (s : State) (zp : Byte) : Addr := zeroPage (zp + s.y)

/-- `EA_ABS` (R92). -/
def eaAbs (_ : State) (addr : Addr) : Addr := addr

/-- `EA_ABX` (R93): a 16-bit sum, modulo 65536. -/
def eaAbx (s : State) (addr : Addr) : Addr := addr + s.x.setWidth 16

/-- `EA_ABY` (R94): a 16-bit sum, modulo 65536. -/
def eaAby (s : State) (addr : Addr) : Addr := addr + s.y.setWidth 16

/-- The 16-bit pointer at a zero-page location: its high byte wraps inside page zero (R95, R96). -/
def zeroPagePointer (s : State) (zp : Byte) : Addr := s.read16 (zeroPage zp) (zeroPage (zp + 1))

/-- `EA_IZX` (R95): `X` moves the pointer's location, wrapping in page zero. -/
def eaIzx (s : State) (zp : Byte) : Addr := s.zeroPagePointer (zp + s.x)

/-- `EA_IZY` (R96): `Y` is added to the pointer's value, modulo 65536. -/
def eaIzy (s : State) (zp : Byte) : Addr := s.zeroPagePointer zp + s.y.setWidth 16

/-- `EA_IND` (R97): the pointer's high byte comes from the next address, also across a page (D12). -/
def eaInd (s : State) (ptr : Addr) : Addr := s.read16 ptr (ptr + 1)

/-- The target of a taken branch (R98, 44_control_flow.md R160): relative to the next instruction, modulo 65536. -/
def branchTarget (s : State) (rel : Byte) : Addr := s.pc + 2 + rel.signExtend 16

end State

end Sys2Proof.Machine
end

