-- ==== Sys2Proof/Machine/Arithmetic.lean ====
section
/-! DEFINITION. Arithmetic and compare instructions (42_arithmetic_compare.md). -/

namespace Sys2Proof.Machine

/-- ADC and SBC take the decimal path (R130, R131): `D = 1 and DECIMAL_ENABLE`. -/
def State.decimalMode (s : State) : Bool :=
  s.flags.d && s.straps.decimalEnable

/-- Write the ALU's result: `A` and the four flags. -/
def State.setAlu (s : State) (r : AluResult) : State :=
  (s.setA r.value).setFlags (s.flags.setAlu r)

/-- ADC (R130): on `A`, the operand and the carry in. -/
def adc (m : Byte) (s : State) : State :=
  s.setAlu (aluAdc s.decimalMode s.a m s.flags.c)

/-- ADC #imm: R130, R88. -/
def execAdcImm (imm : Byte) (s : State) : Result := .next ((adc imm s).advance .imm)

/-- ADC zp: R130, R89. -/
def execAdcZp (zp : Byte) (s : State) : Result := .next ((adc (s.readByte (s.eaZp zp)) s).advance .zp)

/-- ADC zp,X: R130, R90. -/
def execAdcZpx (zp : Byte) (s : State) : Result := .next ((adc (s.readByte (s.eaZpx zp)) s).advance .zpx)

/-- ADC abs: R130, R92. -/
def execAdcAbs (addr : Addr) (s : State) : Result := .next ((adc (s.readByte (s.eaAbs addr)) s).advance .abs)

/-- ADC abs,X: R130, R93. -/
def execAdcAbx (addr : Addr) (s : State) : Result := .next ((adc (s.readByte (s.eaAbx addr)) s).advance .abx)

/-- ADC abs,Y: R130, R94. -/
def execAdcAby (addr : Addr) (s : State) : Result := .next ((adc (s.readByte (s.eaAby addr)) s).advance .aby)

/-- ADC (zp,X): R130, R95. -/
def execAdcIzx (zp : Byte) (s : State) : Result := .next ((adc (s.readByte (s.eaIzx zp)) s).advance .izx)

/-- ADC (zp),Y: R130, R96. -/
def execAdcIzy (zp : Byte) (s : State) : Result := .next ((adc (s.readByte (s.eaIzy zp)) s).advance .izy)

/-- SBC (R131): on `A`, the operand and the carry in. -/
def sbc (m : Byte) (s : State) : State :=
  s.setAlu (aluSbc s.decimalMode s.a m s.flags.c)

/-- SBC #imm: R131, R88. -/
def execSbcImm (imm : Byte) (s : State) : Result := .next ((sbc imm s).advance .imm)

/-- SBC zp: R131, R89. -/
def execSbcZp (zp : Byte) (s : State) : Result := .next ((sbc (s.readByte (s.eaZp zp)) s).advance .zp)

/-- SBC zp,X: R131, R90. -/
def execSbcZpx (zp : Byte) (s : State) : Result := .next ((sbc (s.readByte (s.eaZpx zp)) s).advance .zpx)

/-- SBC abs: R131, R92. -/
def execSbcAbs (addr : Addr) (s : State) : Result := .next ((sbc (s.readByte (s.eaAbs addr)) s).advance .abs)

/-- SBC abs,X: R131, R93. -/
def execSbcAbx (addr : Addr) (s : State) : Result := .next ((sbc (s.readByte (s.eaAbx addr)) s).advance .abx)

/-- SBC abs,Y: R131, R94. -/
def execSbcAby (addr : Addr) (s : State) : Result := .next ((sbc (s.readByte (s.eaAby addr)) s).advance .aby)

/-- SBC (zp,X): R131, R95. -/
def execSbcIzx (zp : Byte) (s : State) : Result := .next ((sbc (s.readByte (s.eaIzx zp)) s).advance .izx)

/-- SBC (zp),Y: R131, R96. -/
def execSbcIzy (zp : Byte) (s : State) : Result := .next ((sbc (s.readByte (s.eaIzy zp)) s).advance .izy)

/-- CMP (R132): `Compare(A, M)`; nothing but `C`, `Z`, `N` is written. -/
def cmp (m : Byte) (s : State) : State :=
  s.setFlags (s.flags.compare s.a m)

/-- CMP #imm: R132, R88. -/
def execCmpImm (imm : Byte) (s : State) : Result := .next ((cmp imm s).advance .imm)

/-- CMP zp: R132, R89. -/
def execCmpZp (zp : Byte) (s : State) : Result := .next ((cmp (s.readByte (s.eaZp zp)) s).advance .zp)

/-- CMP zp,X: R132, R90. -/
def execCmpZpx (zp : Byte) (s : State) : Result := .next ((cmp (s.readByte (s.eaZpx zp)) s).advance .zpx)

/-- CMP abs: R132, R92. -/
def execCmpAbs (addr : Addr) (s : State) : Result := .next ((cmp (s.readByte (s.eaAbs addr)) s).advance .abs)

/-- CMP abs,X: R132, R93. -/
def execCmpAbx (addr : Addr) (s : State) : Result := .next ((cmp (s.readByte (s.eaAbx addr)) s).advance .abx)

/-- CMP abs,Y: R132, R94. -/
def execCmpAby (addr : Addr) (s : State) : Result := .next ((cmp (s.readByte (s.eaAby addr)) s).advance .aby)

/-- CMP (zp,X): R132, R95. -/
def execCmpIzx (zp : Byte) (s : State) : Result := .next ((cmp (s.readByte (s.eaIzx zp)) s).advance .izx)

/-- CMP (zp),Y: R132, R96. -/
def execCmpIzy (zp : Byte) (s : State) : Result := .next ((cmp (s.readByte (s.eaIzy zp)) s).advance .izy)

/-- CPX (R133): `Compare(X, M)`; nothing but `C`, `Z`, `N` is written. -/
def cpx (m : Byte) (s : State) : State :=
  s.setFlags (s.flags.compare s.x m)

/-- CPX #imm: R133, R88. -/
def execCpxImm (imm : Byte) (s : State) : Result := .next ((cpx imm s).advance .imm)

/-- CPX zp: R133, R89. -/
def execCpxZp (zp : Byte) (s : State) : Result := .next ((cpx (s.readByte (s.eaZp zp)) s).advance .zp)

/-- CPX abs: R133, R92. -/
def execCpxAbs (addr : Addr) (s : State) : Result := .next ((cpx (s.readByte (s.eaAbs addr)) s).advance .abs)

/-- CPY (R134): `Compare(Y, M)`; nothing but `C`, `Z`, `N` is written. -/
def cpy (m : Byte) (s : State) : State :=
  s.setFlags (s.flags.compare s.y m)

/-- CPY #imm: R134, R88. -/
def execCpyImm (imm : Byte) (s : State) : Result := .next ((cpy imm s).advance .imm)

/-- CPY zp: R134, R89. -/
def execCpyZp (zp : Byte) (s : State) : Result := .next ((cpy (s.readByte (s.eaZp zp)) s).advance .zp)

/-- CPY abs: R134, R92. -/
def execCpyAbs (addr : Addr) (s : State) : Result := .next ((cpy (s.readByte (s.eaAbs addr)) s).advance .abs)

end Sys2Proof.Machine
end

