-- ==== Sys2Proof/Machine/Control.lean ====
section
/-! DEFINITION. Branches, jumps and subroutine linkage (44_control_flow.md); every rule gives the net `PC` (R7). -/

namespace Sys2Proof.Machine

/-- `Branch(cond)` (R160): taken, to the target; not taken, past the two bytes of the branch. -/
def State.branch (s : State) (cond : Bool) (rel : Byte) : State :=
  if cond then s.setPc (s.branchTarget rel) else s.advance .rel

/-- BCC (R161): `Branch(C = 0)`. -/
def execBcc (rel : Byte) (s : State) : Result := .next (s.branch (!s.flags.c) rel)

/-- BCS (R162): `Branch(C = 1)`. -/
def execBcs (rel : Byte) (s : State) : Result := .next (s.branch s.flags.c rel)

/-- BEQ (R163): `Branch(Z = 1)`. -/
def execBeq (rel : Byte) (s : State) : Result := .next (s.branch s.flags.z rel)

/-- BNE (R164): `Branch(Z = 0)`. -/
def execBne (rel : Byte) (s : State) : Result := .next (s.branch (!s.flags.z) rel)

/-- BMI (R165): `Branch(N = 1)`. -/
def execBmi (rel : Byte) (s : State) : Result := .next (s.branch s.flags.n rel)

/-- BPL (R166): `Branch(N = 0)`. -/
def execBpl (rel : Byte) (s : State) : Result := .next (s.branch (!s.flags.n) rel)

/-- BVC (R167): `Branch(V = 0)`. -/
def execBvc (rel : Byte) (s : State) : Result := .next (s.branch (!s.flags.v) rel)

/-- BVS (R168): `Branch(V = 1)`. -/
def execBvs (rel : Byte) (s : State) : Result := .next (s.branch s.flags.v rel)

/-- JMP abs (R170, R92): `PC` is the operand. -/
def execJmpAbs (addr : Addr) (s : State) : Result := .next (s.setPc (s.eaAbs addr))

/-- JMP (abs) (R170, R97): `PC` is the pointer's value. -/
def execJmpInd (ptr : Addr) (s : State) : Result := .next (s.setPc (s.eaInd ptr))

/-- The address of the last byte of a JSR, which it pushes (R171): `PC + length - 1`. -/
def State.jsrReturn (s : State) : Addr := s.pc + 2

/-- An operand byte read again after the pushes (R171, D16): `s` and `t` are the states before and after the pushes,
`a` the address of the operand byte, `old` the byte the instruction carries. Where the pushes changed the byte at `a`,
the new byte; else `old`. For an instruction that was fetched, `s` holds `old` at `a`, and this is `t.readByte a`
(`reread_eq` in Laws/Ops.lean). Log entry 11. -/
def State.reread (s t : State) (a : Addr) (old : Byte) : Byte :=
  if t.readByte a = s.readByte a then old else t.readByte a

/-- The target of a JSR: its operand bytes as they stand AFTER the two pushes (R171). -/
def State.jsrTarget (s : State) (addr : Addr) : Addr :=
  let t := s.pushWord s.jsrReturn
  wordOf (s.reread t (s.pc + 1) (loByte addr)) (s.reread t (s.pc + 2) (hiByte addr))

/-- JSR (R171): push the address of its own last byte, high byte first, then jump. -/
def execJsr (addr : Addr) (s : State) : Result := .next ((s.pushWord s.jsrReturn).setPc (s.jsrTarget addr))

/-- RTS (R172): pull `PC`, low byte first; the net `PC` is one past the pulled address. -/
def execRts (s : State) : Result := .next (s.pulled.pulled.setPc (s.pullWord + 1))

end Sys2Proof.Machine
end

