-- ==== Sys2Proof/Machine/LoadStore.lean ====
section
/-! DEFINITION. Load, store and register-transfer instructions (41_load_store_transfer.md). Each operation is
stated once; each form reads or writes it through its own addressing rule (R101, R102). -/

namespace Sys2Proof.Machine

/-- LDA (R110): `A <- M; SetZN(A)`, in every form. -/
def lda (m : Byte) (s : State) : State :=
  (s.setA m).setZN m

/-- LDA #imm: R110, R88. -/
def execLdaImm (imm : Byte) (s : State) : Result := .next ((lda imm s).advance .imm)

/-- LDA zp: R110, R89. -/
def execLdaZp (zp : Byte) (s : State) : Result := .next ((lda (s.readByte (s.eaZp zp)) s).advance .zp)

/-- LDA zp,X: R110, R90. -/
def execLdaZpx (zp : Byte) (s : State) : Result := .next ((lda (s.readByte (s.eaZpx zp)) s).advance .zpx)

/-- LDA abs: R110, R92. -/
def execLdaAbs (addr : Addr) (s : State) : Result := .next ((lda (s.readByte (s.eaAbs addr)) s).advance .abs)

/-- LDA abs,X: R110, R93. -/
def execLdaAbx (addr : Addr) (s : State) : Result := .next ((lda (s.readByte (s.eaAbx addr)) s).advance .abx)

/-- LDA abs,Y: R110, R94. -/
def execLdaAby (addr : Addr) (s : State) : Result := .next ((lda (s.readByte (s.eaAby addr)) s).advance .aby)

/-- LDA (zp,X): R110, R95. -/
def execLdaIzx (zp : Byte) (s : State) : Result := .next ((lda (s.readByte (s.eaIzx zp)) s).advance .izx)

/-- LDA (zp),Y: R110, R96. -/
def execLdaIzy (zp : Byte) (s : State) : Result := .next ((lda (s.readByte (s.eaIzy zp)) s).advance .izy)

/-- LDX (R111): `X <- M; SetZN(X)`, in every form. -/
def ldx (m : Byte) (s : State) : State :=
  (s.setX m).setZN m

/-- LDX #imm: R111, R88. -/
def execLdxImm (imm : Byte) (s : State) : Result := .next ((ldx imm s).advance .imm)

/-- LDX zp: R111, R89. -/
def execLdxZp (zp : Byte) (s : State) : Result := .next ((ldx (s.readByte (s.eaZp zp)) s).advance .zp)

/-- LDX zp,Y: R111, R91. -/
def execLdxZpy (zp : Byte) (s : State) : Result := .next ((ldx (s.readByte (s.eaZpy zp)) s).advance .zpy)

/-- LDX abs: R111, R92. -/
def execLdxAbs (addr : Addr) (s : State) : Result := .next ((ldx (s.readByte (s.eaAbs addr)) s).advance .abs)

/-- LDX abs,Y: R111, R94. -/
def execLdxAby (addr : Addr) (s : State) : Result := .next ((ldx (s.readByte (s.eaAby addr)) s).advance .aby)

/-- LDY (R112): `Y <- M; SetZN(Y)`, in every form. -/
def ldy (m : Byte) (s : State) : State :=
  (s.setY m).setZN m

/-- LDY #imm: R112, R88. -/
def execLdyImm (imm : Byte) (s : State) : Result := .next ((ldy imm s).advance .imm)

/-- LDY zp: R112, R89. -/
def execLdyZp (zp : Byte) (s : State) : Result := .next ((ldy (s.readByte (s.eaZp zp)) s).advance .zp)

/-- LDY zp,X: R112, R90. -/
def execLdyZpx (zp : Byte) (s : State) : Result := .next ((ldy (s.readByte (s.eaZpx zp)) s).advance .zpx)

/-- LDY abs: R112, R92. -/
def execLdyAbs (addr : Addr) (s : State) : Result := .next ((ldy (s.readByte (s.eaAbs addr)) s).advance .abs)

/-- LDY abs,X: R112, R93. -/
def execLdyAbx (addr : Addr) (s : State) : Result := .next ((ldy (s.readByte (s.eaAbx addr)) s).advance .abx)

/-- STA (R113, R102): `MemWrite(EA, 1, A)`; no flag, and the target is not read. -/
def sta (ea : Addr) (s : State) : State :=
  s.writeByte ea s.a

/-- STA zp: R113, R89. -/
def execStaZp (zp : Byte) (s : State) : Result := .next ((sta (s.eaZp zp) s).advance .zp)

/-- STA zp,X: R113, R90. -/
def execStaZpx (zp : Byte) (s : State) : Result := .next ((sta (s.eaZpx zp) s).advance .zpx)

/-- STA abs: R113, R92. -/
def execStaAbs (addr : Addr) (s : State) : Result := .next ((sta (s.eaAbs addr) s).advance .abs)

/-- STA abs,X: R113, R93. -/
def execStaAbx (addr : Addr) (s : State) : Result := .next ((sta (s.eaAbx addr) s).advance .abx)

/-- STA abs,Y: R113, R94. -/
def execStaAby (addr : Addr) (s : State) : Result := .next ((sta (s.eaAby addr) s).advance .aby)

/-- STA (zp,X): R113, R95. -/
def execStaIzx (zp : Byte) (s : State) : Result := .next ((sta (s.eaIzx zp) s).advance .izx)

/-- STA (zp),Y: R113, R96. -/
def execStaIzy (zp : Byte) (s : State) : Result := .next ((sta (s.eaIzy zp) s).advance .izy)

/-- STX (R114, R102): `MemWrite(EA, 1, X)`; no flag, and the target is not read. -/
def stx (ea : Addr) (s : State) : State :=
  s.writeByte ea s.x

/-- STX zp: R114, R89. -/
def execStxZp (zp : Byte) (s : State) : Result := .next ((stx (s.eaZp zp) s).advance .zp)

/-- STX zp,Y: R114, R91. -/
def execStxZpy (zp : Byte) (s : State) : Result := .next ((stx (s.eaZpy zp) s).advance .zpy)

/-- STX abs: R114, R92. -/
def execStxAbs (addr : Addr) (s : State) : Result := .next ((stx (s.eaAbs addr) s).advance .abs)

/-- STY (R115, R102): `MemWrite(EA, 1, Y)`; no flag, and the target is not read. -/
def sty (ea : Addr) (s : State) : State :=
  s.writeByte ea s.y

/-- STY zp: R115, R89. -/
def execStyZp (zp : Byte) (s : State) : Result := .next ((sty (s.eaZp zp) s).advance .zp)

/-- STY zp,X: R115, R90. -/
def execStyZpx (zp : Byte) (s : State) : Result := .next ((sty (s.eaZpx zp) s).advance .zpx)

/-- STY abs: R115, R92. -/
def execStyAbs (addr : Addr) (s : State) : Result := .next ((sty (s.eaAbs addr) s).advance .abs)

/-- TAX (R116): `X <- A; SetZN(X)`. -/
def tax (s : State) : State :=
  (s.setX s.a).setZN s.a

/-- TAX: R116. -/
def execTax (s : State) : Result := .next ((tax s).advance .imp)

/-- TAY (R117): `Y <- A; SetZN(Y)`. -/
def tay (s : State) : State :=
  (s.setY s.a).setZN s.a

/-- TAY: R117. -/
def execTay (s : State) : Result := .next ((tay s).advance .imp)

/-- TSX (R118): `X <- SP; SetZN(X)`. -/
def tsx (s : State) : State :=
  (s.setX s.sp).setZN s.sp

/-- TSX: R118. -/
def execTsx (s : State) : Result := .next ((tsx s).advance .imp)

/-- TXA (R119): `A <- X; SetZN(A)`. -/
def txa (s : State) : State :=
  (s.setA s.x).setZN s.x

/-- TXA: R119. -/
def execTxa (s : State) : Result := .next ((txa s).advance .imp)

/-- TXS (R120): `SP <- X`; no flag is written (`TXS_UPDATES_NZ` = false, D3). -/
def txs (s : State) : State :=
  s.setSp s.x

/-- TXS: R120. -/
def execTxs (s : State) : Result := .next ((txs s).advance .imp)

/-- TYA (R121): `A <- Y; SetZN(A)`. -/
def tya (s : State) : State :=
  (s.setA s.y).setZN s.y

/-- TYA: R121. -/
def execTya (s : State) : Result := .next ((tya s).advance .imp)

end Sys2Proof.Machine
end

