-- ==== Sys2Proof/Machine/Logic.lean ====
section
/-! DEFINITION. Logic, bit-test, shift, rotate, increment and decrement instructions (43_logic_shift_incdec.md). -/

namespace Sys2Proof.Machine

/-- AND (R140): `A` combined with the operand, `SetZN(A)`. -/
def andA (m : Byte) (s : State) : State :=
  (s.setA (s.a &&& m)).setZN (s.a &&& m)

/-- AND #imm: R140, R88. -/
def execAndImm (imm : Byte) (s : State) : Result := .next ((andA imm s).advance .imm)

/-- AND zp: R140, R89. -/
def execAndZp (zp : Byte) (s : State) : Result := .next ((andA (s.readByte (s.eaZp zp)) s).advance .zp)

/-- AND zp,X: R140, R90. -/
def execAndZpx (zp : Byte) (s : State) : Result := .next ((andA (s.readByte (s.eaZpx zp)) s).advance .zpx)

/-- AND abs: R140, R92. -/
def execAndAbs (addr : Addr) (s : State) : Result := .next ((andA (s.readByte (s.eaAbs addr)) s).advance .abs)

/-- AND abs,X: R140, R93. -/
def execAndAbx (addr : Addr) (s : State) : Result := .next ((andA (s.readByte (s.eaAbx addr)) s).advance .abx)

/-- AND abs,Y: R140, R94. -/
def execAndAby (addr : Addr) (s : State) : Result := .next ((andA (s.readByte (s.eaAby addr)) s).advance .aby)

/-- AND (zp,X): R140, R95. -/
def execAndIzx (zp : Byte) (s : State) : Result := .next ((andA (s.readByte (s.eaIzx zp)) s).advance .izx)

/-- AND (zp),Y: R140, R96. -/
def execAndIzy (zp : Byte) (s : State) : Result := .next ((andA (s.readByte (s.eaIzy zp)) s).advance .izy)

/-- ORA (R141): `A` combined with the operand, `SetZN(A)`. -/
def oraA (m : Byte) (s : State) : State :=
  (s.setA (s.a ||| m)).setZN (s.a ||| m)

/-- ORA #imm: R141, R88. -/
def execOraImm (imm : Byte) (s : State) : Result := .next ((oraA imm s).advance .imm)

/-- ORA zp: R141, R89. -/
def execOraZp (zp : Byte) (s : State) : Result := .next ((oraA (s.readByte (s.eaZp zp)) s).advance .zp)

/-- ORA zp,X: R141, R90. -/
def execOraZpx (zp : Byte) (s : State) : Result := .next ((oraA (s.readByte (s.eaZpx zp)) s).advance .zpx)

/-- ORA abs: R141, R92. -/
def execOraAbs (addr : Addr) (s : State) : Result := .next ((oraA (s.readByte (s.eaAbs addr)) s).advance .abs)

/-- ORA abs,X: R141, R93. -/
def execOraAbx (addr : Addr) (s : State) : Result := .next ((oraA (s.readByte (s.eaAbx addr)) s).advance .abx)

/-- ORA abs,Y: R141, R94. -/
def execOraAby (addr : Addr) (s : State) : Result := .next ((oraA (s.readByte (s.eaAby addr)) s).advance .aby)

/-- ORA (zp,X): R141, R95. -/
def execOraIzx (zp : Byte) (s : State) : Result := .next ((oraA (s.readByte (s.eaIzx zp)) s).advance .izx)

/-- ORA (zp),Y: R141, R96. -/
def execOraIzy (zp : Byte) (s : State) : Result := .next ((oraA (s.readByte (s.eaIzy zp)) s).advance .izy)

/-- EOR (R142): `A` combined with the operand, `SetZN(A)`. -/
def eorA (m : Byte) (s : State) : State :=
  (s.setA (s.a ^^^ m)).setZN (s.a ^^^ m)

/-- EOR #imm: R142, R88. -/
def execEorImm (imm : Byte) (s : State) : Result := .next ((eorA imm s).advance .imm)

/-- EOR zp: R142, R89. -/
def execEorZp (zp : Byte) (s : State) : Result := .next ((eorA (s.readByte (s.eaZp zp)) s).advance .zp)

/-- EOR zp,X: R142, R90. -/
def execEorZpx (zp : Byte) (s : State) : Result := .next ((eorA (s.readByte (s.eaZpx zp)) s).advance .zpx)

/-- EOR abs: R142, R92. -/
def execEorAbs (addr : Addr) (s : State) : Result := .next ((eorA (s.readByte (s.eaAbs addr)) s).advance .abs)

/-- EOR abs,X: R142, R93. -/
def execEorAbx (addr : Addr) (s : State) : Result := .next ((eorA (s.readByte (s.eaAbx addr)) s).advance .abx)

/-- EOR abs,Y: R142, R94. -/
def execEorAby (addr : Addr) (s : State) : Result := .next ((eorA (s.readByte (s.eaAby addr)) s).advance .aby)

/-- EOR (zp,X): R142, R95. -/
def execEorIzx (zp : Byte) (s : State) : Result := .next ((eorA (s.readByte (s.eaIzx zp)) s).advance .izx)

/-- EOR (zp),Y: R142, R96. -/
def execEorIzy (zp : Byte) (s : State) : Result := .next ((eorA (s.readByte (s.eaIzy zp)) s).advance .izy)

/-- BIT (R143): flags only; `A` and memory unchanged. -/
def bitTest (m : Byte) (s : State) : State :=
  s.setFlags (s.flags.bitTest s.a m)

/-- BIT zp: R143, R89. -/
def execBitZp (zp : Byte) (s : State) : Result := .next ((bitTest (s.readByte (s.eaZp zp)) s).advance .zp)

/-- BIT abs: R143, R92. -/
def execBitAbs (addr : Addr) (s : State) : Result := .next ((bitTest (s.readByte (s.eaAbs addr)) s).advance .abs)

/-- Write a shifted accumulator and the flags (R144 to R147, format ACC). -/
def State.putShiftA (s : State) (r : Byte × Bool) : State :=
  (s.setA r.1).setFlags (s.flags.setShift r)

/-- Write a shifted memory byte and the flags (R103: one read, then one write of the same address). -/
def State.putShiftMem (s : State) (ea : Addr) (r : Byte × Bool) : State :=
  (s.writeByte ea r.1).setFlags (s.flags.setShift r)

/-- ASL A (R144). -/
def aslAcc (s : State) : State :=
  s.putShiftA (aslByte s.a)

/-- ASL on a memory byte (R144). -/
def aslMem (ea : Addr) (s : State) : State :=
  s.putShiftMem ea (aslByte (s.readByte ea))

/-- ASL A: R144, R87. -/
def execAslAcc (s : State) : Result := .next ((aslAcc s).advance .acc)

/-- ASL zp: R144, R89. -/
def execAslZp (zp : Byte) (s : State) : Result := .next ((aslMem (s.eaZp zp) s).advance .zp)

/-- ASL zp,X: R144, R90. -/
def execAslZpx (zp : Byte) (s : State) : Result := .next ((aslMem (s.eaZpx zp) s).advance .zpx)

/-- ASL abs: R144, R92. -/
def execAslAbs (addr : Addr) (s : State) : Result := .next ((aslMem (s.eaAbs addr) s).advance .abs)

/-- ASL abs,X: R144, R93. -/
def execAslAbx (addr : Addr) (s : State) : Result := .next ((aslMem (s.eaAbx addr) s).advance .abx)

/-- LSR A (R145). -/
def lsrAcc (s : State) : State :=
  s.putShiftA (lsrByte s.a)

/-- LSR on a memory byte (R145). -/
def lsrMem (ea : Addr) (s : State) : State :=
  s.putShiftMem ea (lsrByte (s.readByte ea))

/-- LSR A: R145, R87. -/
def execLsrAcc (s : State) : Result := .next ((lsrAcc s).advance .acc)

/-- LSR zp: R145, R89. -/
def execLsrZp (zp : Byte) (s : State) : Result := .next ((lsrMem (s.eaZp zp) s).advance .zp)

/-- LSR zp,X: R145, R90. -/
def execLsrZpx (zp : Byte) (s : State) : Result := .next ((lsrMem (s.eaZpx zp) s).advance .zpx)

/-- LSR abs: R145, R92. -/
def execLsrAbs (addr : Addr) (s : State) : Result := .next ((lsrMem (s.eaAbs addr) s).advance .abs)

/-- LSR abs,X: R145, R93. -/
def execLsrAbx (addr : Addr) (s : State) : Result := .next ((lsrMem (s.eaAbx addr) s).advance .abx)

/-- ROL A (R146). -/
def rolAcc (s : State) : State :=
  s.putShiftA (rolByte s.flags.c s.a)

/-- ROL on a memory byte (R146). -/
def rolMem (ea : Addr) (s : State) : State :=
  s.putShiftMem ea (rolByte s.flags.c (s.readByte ea))

/-- ROL A: R146, R87. -/
def execRolAcc (s : State) : Result := .next ((rolAcc s).advance .acc)

/-- ROL zp: R146, R89. -/
def execRolZp (zp : Byte) (s : State) : Result := .next ((rolMem (s.eaZp zp) s).advance .zp)

/-- ROL zp,X: R146, R90. -/
def execRolZpx (zp : Byte) (s : State) : Result := .next ((rolMem (s.eaZpx zp) s).advance .zpx)

/-- ROL abs: R146, R92. -/
def execRolAbs (addr : Addr) (s : State) : Result := .next ((rolMem (s.eaAbs addr) s).advance .abs)

/-- ROL abs,X: R146, R93. -/
def execRolAbx (addr : Addr) (s : State) : Result := .next ((rolMem (s.eaAbx addr) s).advance .abx)

/-- ROR A (R147). -/
def rorAcc (s : State) : State :=
  s.putShiftA (rorByte s.flags.c s.a)

/-- ROR on a memory byte (R147). -/
def rorMem (ea : Addr) (s : State) : State :=
  s.putShiftMem ea (rorByte s.flags.c (s.readByte ea))

/-- ROR A: R147, R87. -/
def execRorAcc (s : State) : Result := .next ((rorAcc s).advance .acc)

/-- ROR zp: R147, R89. -/
def execRorZp (zp : Byte) (s : State) : Result := .next ((rorMem (s.eaZp zp) s).advance .zp)

/-- ROR zp,X: R147, R90. -/
def execRorZpx (zp : Byte) (s : State) : Result := .next ((rorMem (s.eaZpx zp) s).advance .zpx)

/-- ROR abs: R147, R92. -/
def execRorAbs (addr : Addr) (s : State) : Result := .next ((rorMem (s.eaAbs addr) s).advance .abs)

/-- ROR abs,X: R147, R93. -/
def execRorAbx (addr : Addr) (s : State) : Result := .next ((rorMem (s.eaAbx addr) s).advance .abx)

/-- Write a changed memory byte and `SetZN` it (R103, R148, R149); `C` and `V` stay. -/
def State.putCount (s : State) (ea : Addr) (v : Byte) : State :=
  (s.writeByte ea v).setZN v

/-- INC (R148): the byte at `EA` + 1 modulo 256. -/
def incMem (ea : Addr) (s : State) : State :=
  s.putCount ea (s.readByte ea + 1)

/-- INC zp: R148, R89. -/
def execIncZp (zp : Byte) (s : State) : Result := .next ((incMem (s.eaZp zp) s).advance .zp)

/-- INC zp,X: R148, R90. -/
def execIncZpx (zp : Byte) (s : State) : Result := .next ((incMem (s.eaZpx zp) s).advance .zpx)

/-- INC abs: R148, R92. -/
def execIncAbs (addr : Addr) (s : State) : Result := .next ((incMem (s.eaAbs addr) s).advance .abs)

/-- INC abs,X: R148, R93. -/
def execIncAbx (addr : Addr) (s : State) : Result := .next ((incMem (s.eaAbx addr) s).advance .abx)

/-- DEC (R149): the byte at `EA` - 1 modulo 256. -/
def decMem (ea : Addr) (s : State) : State :=
  s.putCount ea (s.readByte ea - 1)

/-- DEC zp: R149, R89. -/
def execDecZp (zp : Byte) (s : State) : Result := .next ((decMem (s.eaZp zp) s).advance .zp)

/-- DEC zp,X: R149, R90. -/
def execDecZpx (zp : Byte) (s : State) : Result := .next ((decMem (s.eaZpx zp) s).advance .zpx)

/-- DEC abs: R149, R92. -/
def execDecAbs (addr : Addr) (s : State) : Result := .next ((decMem (s.eaAbs addr) s).advance .abs)

/-- DEC abs,X: R149, R93. -/
def execDecAbx (addr : Addr) (s : State) : Result := .next ((decMem (s.eaAbx addr) s).advance .abx)

/-- INX (R150): `X <- (X + 1) mod 256; SetZN(X)`. -/
def inx (s : State) : State :=
  (s.setX (s.x + 1)).setZN (s.x + 1)

/-- INX: R150. -/
def execInx (s : State) : Result := .next ((inx s).advance .imp)

/-- INY (R151): `Y <- (Y + 1) mod 256; SetZN(Y)`. -/
def iny (s : State) : State :=
  (s.setY (s.y + 1)).setZN (s.y + 1)

/-- INY: R151. -/
def execIny (s : State) : Result := .next ((iny s).advance .imp)

/-- DEX (R152): `X <- (X - 1) mod 256; SetZN(X)`. -/
def dex (s : State) : State :=
  (s.setX (s.x - 1)).setZN (s.x - 1)

/-- DEX: R152. -/
def execDex (s : State) : Result := .next ((dex s).advance .imp)

/-- DEY (R153): `Y <- (Y - 1) mod 256; SetZN(Y)`. -/
def dey (s : State) : State :=
  (s.setY (s.y - 1)).setZN (s.y - 1)

/-- DEY: R153. -/
def execDey (s : State) : Result := .next ((dey s).advance .imp)

end Sys2Proof.Machine
end

