-- ==== Sys2Proof/Machine/System.lean ====
section
/-! DEFINITION. Stack, flag, no-operation and system instructions (45_stack_flags_system.md). -/

namespace Sys2Proof.Machine

/-- PHA (R180). -/
def execPha (s : State) : Result := .next ((s.push s.a).advance .imp)

/-- PHP (R181): bits 4 and 5 of the pushed byte are 1; no flag changes. -/
def execPhp (s : State) : Result := .next ((s.push (s.flags.pack true)).advance .imp)

/-- PLA (R182): a load of `A`, so `SetZN(A)` (D10). -/
def execPla (s : State) : Result := .next (((s.pulled.setA s.pullByte).setZN s.pullByte).advance .imp)

/-- PLP (R183): all seven flags from the pulled byte. -/
def execPlp (s : State) : Result := .next ((s.pulled.setFlags (Flags.unpack s.pullByte)).advance .imp)

/-- CLC (R184): `C <- 0`, no other flag. -/
def execClc (s : State) : Result := .next ((s.setFlags ({ s.flags with c := false })).advance .imp)

/-- CLD (R185): `D <- 0`, no other flag. -/
def execCld (s : State) : Result := .next ((s.setFlags ({ s.flags with d := false })).advance .imp)

/-- CLI (R186): `I <- 0`, no other flag. -/
def execCli (s : State) : Result := .next ((s.setFlags ({ s.flags with i := false })).advance .imp)

/-- CLV (R187): `V <- 0`, no other flag. -/
def execClv (s : State) : Result := .next ((s.setFlags ({ s.flags with v := false })).advance .imp)

/-- SEC (R188): `C <- 1`, no other flag. -/
def execSec (s : State) : Result := .next ((s.setFlags ({ s.flags with c := true })).advance .imp)

/-- SED (R189): `D <- 1`, no other flag. -/
def execSed (s : State) : Result := .next ((s.setFlags ({ s.flags with d := true })).advance .imp)

/-- SEI (R190): `I <- 1`, no other flag. -/
def execSei (s : State) : Result := .next ((s.setFlags ({ s.flags with i := true })).advance .imp)

/-- NOP (R191): only `PC` moves. -/
def execNop (s : State) : Result := .next (s.advance .imp)

/-- `RUNNING <- 0` where the condition holds (10_state.md R20). -/
def State.haltIf (s : State) (halt : Bool) : State := { s with running := s.running && !halt }

/-- BRK (R196): interrupt entry through the IRQ/BRK vector with bit 4 of the pushed status set and the return address
`pc0 + BRK_PUSH_OFFSET`; then `RUNNING <- 0` if `HALT_ON_BREAK`. -/
def execBrk (s : State) : Result :=
  .next ((s.enterInterrupt (s.pc + Config.brkPushOffset) true vecIrq).haltIf s.straps.haltOnBreak)

/-- RTI (R197). -/
def execRti (s : State) : Result := .next s.returnFromInterrupt

end Sys2Proof.Machine
end

