-- ==== Sys2Proof/Machine/Sequencer.lean ====
section
/-! DEFINITION. The execution sequencer's parts (40_sequencer_addressing.md R80 to R86, R99): the interrupt check, the
fetch, the unknown-opcode fault, cycle accounting, and one instruction run from fetch to accounting. -/

namespace Sys2Proof.Machine

/-- The default `BASE_CYCLES` (70_reset_and_hazards.md R244); a byte that is no opcode is never charged. -/
def defaultBaseCycles (opcode : Byte) : Nat :=
  match opcodeLookup opcode with
  | some r => r.cycles
  | none => 0

/-- `BASE_CYCLES(opcode)` (R4, D19): the strap's entry for the opcode, else the default. Log entry 3. -/
def Straps.baseCycles (p : Straps) (opcode : Byte) : Nat :=
  (p.cycleExceptions.lookup opcode.toNat).getD (defaultBaseCycles opcode)

namespace State

/-- Step (1) (R82, 60_exceptions.md R207 to R209): NMI before IRQ, IRQ only while `I` is clear, the latch of the
interrupt taken is cleared, at most one is serviced. -/
def interruptCheck (s : State) : State :=
  if s.nmiPending then service { s with nmiPending := false } vecNmi
  else if s.irqPending && !s.flags.i then service { s with irqPending := false } vecIrq
  else s

/-- Step (2): the opcode byte at `PC` (R83). -/
def fetchOpcode (s : State) : Byte := s.readByte s.pc

/-- `op1` (R86). -/
def operand1 (s : State) : Byte := s.readByte (s.pc + 1)

/-- `op2` (R86). -/
def operand2 (s : State) : Byte := s.readByte (s.pc + 2)

/-- Steps (2) and (3): the instruction at `PC`. The two bytes after the opcode are read whether or not the format has
them, which nothing can observe (20_memory.md R41; log entry 12). -/
def fetchDecode (s : State) : Except DecodeError Instr := decode s.fetchOpcode s.operand1 s.operand2

/-- `raise UnknownOpcode(byte, pc)` (R201, R83): the run latch and the fault record, nothing else. -/
def raiseUnknownOpcode (s : State) : State :=
  { s with running := false, fault := some { byte := s.fetchOpcode, pc := s.pc } }

/-- Step (6) (R99). -/
def accountCycles (s : State) (opcode : Byte) : State := { s with cyc := s.cyc + s.straps.baseCycles opcode }

/-- Step (0) when the stop request is seen (R81): the run latch, nothing else. -/
def stop (s : State) : State := { s with running := false }

end State

/-- Steps (2) to (6) of an iteration (R80). -/
def runInstruction (s : State) : Result :=
  match s.fetchDecode with
  | .error _ => .next s.raiseUnknownOpcode
  | .ok i =>
    match exec i s with
    | .next t => .next (t.accountCycles s.fetchOpcode)
    | .fault r => .fault r
    | .refused r => .refused r

/-- One iteration (R80), steps (0) to (6). A halted block does nothing (R81, R220; log entry 8). -/
def iteration (s : State) : Result :=
  if !s.running then .next s
  else if s.stopReq then .next s.stop
  else runInstruction s.interruptCheck

namespace State

/-- Nothing stands between the state and the fetch at its `PC`: running, no stop request, no interrupt to service. -/
def readyToFetch (s : State) : State :=
  { s with running := true, stopReq := false, nmiPending := false, irqPending := s.irqPending && s.flags.i }

/-- Store the three bytes of a table word at `PC`. -/
def storeTableWord (s : State) (nbits w : Nat) : State :=
  ((s.writeByte s.pc (tableByte nbits w 0)).writeByte (s.pc + 1) (tableByte nbits w 1)).writeByte (s.pc + 2)
    (tableByte nbits w 2)

end State

end Sys2Proof.Machine
end

