-- ==== Sys2Proof/Machine/Step.lean ====
section
/-! DEFINITION. The step of the machine, one iteration of the block, and the host's way to place one instruction. -/

namespace Sys2Proof.Machine

/-- One step: one iteration (40_sequencer_addressing.md R80). -/
def step (s : State) : Host.Outcome State Fault Refusal := iteration s

/-- The state with a table word stored where the next step fetches, and nothing pending that would divert that step.
Log entry 13. -/
def State.withFetchWord (s : State) (nbits w : Nat) : State := s.readyToFetch.storeTableWord nbits w

end Sys2Proof.Machine
end

