-- ==== Sys2Proof/Machine/Environment.lean ====
section
/-! DEFINITION. What the environment may do between two iterations (60_exceptions.md R205, R206, 70_reset_and_hazards.md
R233). Its schedule is free: log entry 5. -/

namespace Sys2Proof.Machine

/-- One action of the environment (R206). -/
inductive EnvAction where
  /-- set `IRQ_PENDING` -/
  | requestIrq
  /-- set `NMI_PENDING` -/
  | requestNmi
  /-- assert the stop request for the next iteration -/
  | requestStop
  /-- apply reset; memory keeps its contents (R233) -/
  | applyReset
  deriving DecidableEq, Repr

/-- The state after an action of the environment. A request on a latch already set changes nothing (R21, R216). -/
def State.envAct (s : State) : EnvAction → State
  | .requestIrq => { s with irqPending := true }
  | .requestNmi => { s with nmiPending := true }
  | .requestStop => { s with stopReq := true }
  | .applyReset => State.resetOver s.straps s.mem

end Sys2Proof.Machine
end

