-- ==== Sys2Proof/Safety.lean ====
section
/-! DEFINITION. The terms in which claims about whole runs are stated: the invariant of the machine and the states a run can
reach under any schedule of the environment. -/

namespace Sys2Proof.Machine

/-- Memory is in its canonical form, and a recorded fault is the truth about a halted machine: `RUNNING` is 0, `PC` is
the recorded address, and the byte there is the recorded one and no opcode (60_exceptions.md R201, R220). -/
def State.Inv (s : State) : Prop :=
  s.mem.wf ∧ ∀ r, s.fault = some r →
    s.running = false ∧ s.pc = r.pc ∧ s.readByte r.pc = r.byte ∧ r.byte ∈ illegalOpcodes

/-- The states of all runs: reset is released over some memory image with some straps (R235), then iterations and
actions of the environment follow in any order (60_exceptions.md R206). -/
inductive Reachable : State → Prop
  | powerOn (straps : Straps) (image : Memory) (h : image.wf) : Reachable (State.resetOver straps image)
  | envAct (s : State) (e : EnvAction) (h : Reachable s) : Reachable (s.envAct e)
  | step (s t : State) (h : Reachable s) (hs : Machine.step s = .next t) : Reachable t

end Sys2Proof.Machine
end

