-- ==== Sys2Proof/Certificates/Slice0/Obligations.lean ====
section
/-! DEFINITION. The statements about the model that are left to be proved, and the words they are written with. -/

open Sys2Proof Sys2Proof.Machine

namespace Sys2Proof.Stated

/-! The words the statements are written with. Arithmetic is spelled out on natural numbers and integers, as the rules
spell it, and not with the model's own functions. -/

/-- `sext_8(b)` (00_scope.md R6): `b` if `b < 128`, else `b - 256`. -/
def sext8 (b : Byte) : Int := if b.toNat < 128 then b.toNat else (b.toNat : Int) - 256

/-- A byte from a number, modulo 256. -/
def byteOf (n : Nat) : Byte := BitVec.ofNat 8 n

/-- `Z` and `N` from a byte in D0's words (40_sequencer_addressing.md R100): `zero == (v == 0)`, `negative == (v >= 0x80)`. -/
def znFrom (f : Flags) (v : Byte) : Flags := { f with z := decide (v.toNat = 0), n := decide (0x80 ≤ v.toNat) }

/-- The address of the next instruction in sequence (R85): `(pc0 + length) mod 65536`; the reduction is decision D2, log
entry 14. -/
def nextPc (s : State) (i : Instr) : Addr := s.pc + BitVec.ofNat 16 i.length

/-- A format IMM (R88): its two bytes, and what holds of it. The opcode byte, here and in the three forms below, is that
of the map of R66, which the spec marks as general knowledge (decision D25, log entry 10). -/
def ImmForm (opcode : Byte) (f : Byte → Instr) (P : Instr → Byte → Prop) : Prop :=
  ∀ v, encode (f v) = [opcode, v] ∧ P (f v) v

/-- A format with one operand byte and an effective address: its two bytes, and what holds of it and its address. -/
def ByteForm (opcode : Byte) (f : Byte → Instr) (ea : Byte → Addr) (P : Instr → Addr → Prop) : Prop :=
  ∀ z, encode (f z) = [opcode, z] ∧ P (f z) (ea z)

/-- A format with a 16-bit operand and an effective address: its three bytes, low byte first, and what holds. -/
def WordForm (opcode : Byte) (f : Addr → Instr) (ea : Addr → Addr) (P : Instr → Addr → Prop) : Prop :=
  ∀ a, encode (f a) = [opcode, loByte a, hiByte a] ∧ P (f a) (ea a)

/-- A format without operand bytes: its one byte, and what holds of it. -/
def ImpForm (opcode : Byte) (i : Instr) (P : Instr → Prop) : Prop := encode i = [opcode] ∧ P i

/-- The instruction completes with the given flags and `PC` in sequence; nothing else changes. -/
def OnlyFlags (s : State) (f : Flags) (i : Instr) : Prop := exec i s = .next { s with flags := f, pc := nextPc s i }

/-- The instruction completes, loading `A` with the byte; nothing else changes but `Z`, `N` and `PC`. -/
def LoadsA (s : State) (i : Instr) (m : Byte) : Prop :=
  exec i s = .next { s with a := m, flags := znFrom s.flags m, pc := nextPc s i }

/-- The same of `X`. -/
def LoadsX (s : State) (i : Instr) (m : Byte) : Prop :=
  exec i s = .next { s with x := m, flags := znFrom s.flags m, pc := nextPc s i }

/-- The same of `Y`. -/
def LoadsY (s : State) (i : Instr) (m : Byte) : Prop :=
  exec i s = .next { s with y := m, flags := znFrom s.flags m, pc := nextPc s i }

/-- The instruction completes, storing the byte at the address: every other byte, register, flag and latch is as before. -/
def Stores (s : State) (v : Byte) (i : Instr) (ea : Addr) : Prop :=
  ∃ t, exec i s = .next t ∧ t.readByte ea = v ∧ (∀ a, a ≠ ea → t.readByte a = s.readByte a) ∧
    t = { s with mem := t.mem, pc := nextPc s i }

/-- The instruction completes, replacing the byte at the address and writing the flags; everything else is as before. -/
def Modifies (s : State) (i : Instr) (ea : Addr) (v : Byte) (f : Flags) : Prop :=
  ∃ t, exec i s = .next t ∧ t.readByte ea = v ∧ (∀ a, a ≠ ea → t.readByte a = s.readByte a) ∧
    t = { s with mem := t.mem, flags := f, pc := nextPc s i }

/-- The instruction completes, replacing `A` and writing the flags; everything else is as before. -/
def ModifiesA (s : State) (i : Instr) (v : Byte) (f : Flags) : Prop :=
  exec i s = .next { s with a := v, flags := f, pc := nextPc s i }

/-- The instruction completes with the ALU's result in `A` and `C`, `Z`, `N`, `V`; everything else is as before. -/
def AluWrites (s : State) (i : Instr) (r : AluResult) : Prop :=
  exec i s = .next { s with
    a := r.value
    flags := { s.flags with c := r.c, z := r.z, n := r.n, v := r.v }
    pc := nextPc s i }

/-- `D = 1 and DECIMAL_ENABLE` (42_arithmetic_compare.md R130). -/
def decimalPath (s : State) : Prop := s.flags.d = true ∧ s.straps.decimalEnable = true

/-- The compare flags (R139), spelled out: `C` the unsigned comparison, `Z` equality, `N` bit 7 of the difference
modulo 256. -/
def compareFlags (f : Flags) (reg m : Byte) : Flags :=
  { f with
    c := decide (m.toNat ≤ reg.toNat)
    z := decide (reg.toNat = m.toNat)
    n := decide (0x80 ≤ (((reg.toNat : Int) - m.toNat) % 256).toNat) }

/-- Valid BCD (R136): both nibbles at most 9. -/
abbrev IsBcd (b : Byte) : Prop := b.toNat / 16 ≤ 9 ∧ b.toNat % 16 ≤ 9

/-- The value of a packed pair of digits (R136). -/
def bcdNat (b : Byte) : Nat := 10 * (b.toNat / 16) + b.toNat % 16

/-- The byte whose two digits are those of a number below 100 (R136). -/
def bcdByte (n : Nat) : Byte := byteOf (16 * (n / 10) + n % 10)

/-- A result byte with `C` and `V` given and `Z`, `N` in D0's words. -/
def aluResult (r : Byte) (c v : Bool) : AluResult :=
  { value := r, c := c, z := decide (r.toNat = 0), n := decide (0x80 ≤ r.toNat), v := v }

/-- Binary addition (R135) on numbers: the sum modulo 256, its carry, and overflow as the signed sum out of range. -/
def addBinary (a m : Byte) (c : Bool) : AluResult :=
  aluResult (byteOf (a.toNat + m.toNat + c.toNat)) (decide (0xFF < a.toNat + m.toNat + c.toNat))
    (decide (sext8 a + sext8 m + c.toNat < -128 ∨ 127 < sext8 a + sext8 m + c.toNat))

/-- Binary subtraction (R131) on numbers, with `t = a - m - (1 - c)`: `t` modulo 256, `C` its complement of a borrow, and
overflow as the signed difference out of range. -/
def subBinary (a m : Byte) (c : Bool) : AluResult :=
  aluResult (byteOf (((a.toNat : Int) - m.toNat - (1 - c.toNat)) % 256).toNat)
    (decide (0 ≤ (a.toNat : Int) - m.toNat - (1 - c.toNat)))
    (decide (sext8 a - sext8 m - (1 - c.toNat) < -128 ∨ 127 < sext8 a - sext8 m - (1 - c.toNat)))

/-- Decimal addition (R136) on numbers; `V`, and the result on invalid digits, are the free values (log entry 2). -/
def addDecimal (a m : Byte) (c : Bool) : AluResult :=
  if IsBcd a ∧ IsBcd m then
    aluResult (bcdByte ((bcdNat a + bcdNat m + c.toNat) % 100)) (decide (99 < bcdNat a + bcdNat m + c.toNat))
      (Config.decimalV a m c .adc)
  else Config.invalidBcd a m c .adc

/-- Decimal subtraction (R137) on numbers; free values as for the addition. -/
def subDecimal (a m : Byte) (c : Bool) : AluResult :=
  if IsBcd a ∧ IsBcd m then
    aluResult (bcdByte (((bcdNat a : Int) - bcdNat m - (1 - c.toNat)) % 100).toNat)
      (decide (0 ≤ (bcdNat a : Int) - bcdNat m - (1 - c.toNat))) (Config.decimalV a m c .sbc)
  else Config.invalidBcd a m c .sbc

/-- `PackP(b)` as R17 (10_state.md) writes it. -/
def packNat (f : Flags) (b : Bool) : Nat :=
  f.n.toNat * 128 + f.v.toNat * 64 + 32 + b.toNat * 16 + f.d.toNat * 8 + f.i.toNat * 4 + f.z.toNat * 2 + f.c.toNat

/-- `UnpackP(v)` as R18 writes it: bits 0, 1, 2, 3, 4, 6, 7; bit 5 is ignored. -/
def unpackBits (v : Byte) : Flags :=
  { c := v.toNat.testBit 0
    z := v.toNat.testBit 1
    i := v.toNat.testBit 2
    d := v.toNat.testBit 3
    b := v.toNat.testBit 4
    v := v.toNat.testBit 6
    n := v.toNat.testBit 7 }

/-- `t` is `s` after an interrupt entry (60_exceptions.md R210) with return address `ret`, bit 4 of the pushed status
`brk` and the vector at `vec`: three bytes pushed in page 1, `I` set, `PC` from the vector; no other byte of memory and
nothing else of the state changes. -/
def Entered (s : State) (ret : Addr) (brk : Bool) (vec : Addr) (t : State) : Prop :=
  (t.readByte (State.stackAddr s.sp)).toNat = ret.toNat / 256 ∧
  (t.readByte (State.stackAddr (s.sp - 1))).toNat = ret.toNat % 256 ∧
  (t.readByte (State.stackAddr (s.sp - 2))).toNat = packNat s.flags brk ∧
  (∀ a, a ≠ State.stackAddr s.sp → a ≠ State.stackAddr (s.sp - 1) → a ≠ State.stackAddr (s.sp - 2) →
    t.readByte a = s.readByte a) ∧
  t = { s with
    mem := t.mem
    sp := s.sp - 3
    flags := { s.flags with i := true }
    pc := wordOf (s.readByte vec) (s.readByte (vec + 1)) }

/-- The branch completes at its target when the condition holds and past its two bytes when it does not; nothing but `PC`
changes (44_control_flow.md R160). -/
def BranchesWhen (s : State) (opcode : Byte) (f : Byte → Instr) (cond : Prop) : Prop :=
  ∀ rel, encode (f rel) = [opcode, rel] ∧ ∃ t, exec (f rel) s = .next t ∧ t = { s with pc := t.pc } ∧
    (cond → (t.pc.toNat : Int) = ((s.pc.toNat : Int) + 2 + sext8 rel) % 65536) ∧
    (¬ cond → t.pc.toNat = (s.pc.toNat + 2) % 65536)

/-- The base cycle counts of R244 (70_reset_and_hazards.md), by mnemonic and format as the rule's table groups them. -/
def r244 : Mnemonic → Mode → Nat
  | .lda, m | .adc, m | .sbc, m | .and, m | .ora, m | .eor, m | .cmp, m =>
    match m with
    | .imm => 2 | .zp => 3 | .zpx => 4 | .abs => 4 | .abx => 4 | .aby => 4 | .izx => 6 | .izy => 5 | _ => 0
  | .ldx, m => match m with | .imm => 2 | .zp => 3 | .zpy => 4 | .abs => 4 | .aby => 4 | _ => 0
  | .ldy, m => match m with | .imm => 2 | .zp => 3 | .zpx => 4 | .abs => 4 | .abx => 4 | _ => 0
  | .cpx, m | .cpy, m => match m with | .imm => 2 | .zp => 3 | .abs => 4 | _ => 0
  | .bit, m => match m with | .zp => 3 | .abs => 4 | _ => 0
  | .sta, m => match m with | .zp => 3 | .zpx => 4 | .abs => 4 | .abx => 5 | .aby => 5 | .izx => 6 | .izy => 6 | _ => 0
  | .stx, m => match m with | .zp => 3 | .zpy => 4 | .abs => 4 | _ => 0
  | .sty, m => match m with | .zp => 3 | .zpx => 4 | .abs => 4 | _ => 0
  | .asl, m | .lsr, m | .rol, m | .ror, m =>
    match m with | .acc => 2 | .zp => 5 | .zpx => 6 | .abs => 6 | .abx => 7 | _ => 0
  | .inc, m | .dec, m => match m with | .zp => 5 | .zpx => 6 | .abs => 6 | .abx => 7 | _ => 0
  | .tax, _ | .tay, _ | .tsx, _ | .txa, _ | .txs, _ | .tya, _ | .inx, _ | .iny, _ | .dex, _ | .dey, _ => 2
  | .clc, _ | .cld, _ | .cli, _ | .clv, _ | .sec, _ | .sed, _ | .sei, _ | .nop, _ => 2
  | .pha, _ | .php, _ => 3
  | .pla, _ | .plp, _ => 4
  | .rts, _ | .rti, _ => 6
  | .brk, _ => 7
  | .jsr, _ => 6
  | .jmp, m => match m with | .abs => 3 | .ind => 5 | _ => 0
  | .bcc, _ | .bcs, _ | .beq, _ | .bne, _ | .bmi, _ | .bpl, _ | .bvc, _ | .bvs, _ => 2

/-- The instructions whose rule gives the net `PC` itself (R85). -/
def controlMnemonics : List Mnemonic :=
  [.bcc, .bcs, .beq, .bne, .bmi, .bpl, .bvc, .bvs, .jmp, .jsr, .rts, .rti, .brk]

/-- An iteration on this state gets as far as the fetch: running, no stop request (R81). -/
def Iterates (s : State) : Prop := s.running = true ∧ s.stopReq = false

/-- The state with the break flag replaced. -/
def withBreak (s : State) (b : Bool) : State := { s with flags := { s.flags with b := b } }

end Sys2Proof.Stated

open Sys2Proof.Stated

/-- A word of each family, written bit by bit from the opcode map, decodes to its instruction (decision D25, log entry
10). Rules: 30_encoding.md R62, 30_encoding.md R66, 92_eei_decisions.md D25. -/
def Obligations.SampleWordsDecodeAsWritten : Prop :=
  decode 0b10100001 0b00100000 0x00 = .ok (.ldaIzx 0x20) ∧
  decode 0b10001110 0b00110100 0b00010010 = .ok (.stxAbs 0x1234) ∧
  decode 0b11101001 0b00000111 0x00 = .ok (.sbcImm 0x07) ∧
  decode 0b01111110 0b00000000 0b00110000 = .ok (.rorAbx 0x3000) ∧
  decode 0b11010000 0b11111000 0x00 = .ok (.bne 0xF8) ∧
  decode 0b01101100 0b11111111 0b00000010 = .ok (.jmpInd 0x02FF) ∧
  decode 0b00100000 0b00000000 0b00000011 = .ok (.jsr 0x0300) ∧
  decode 0b00101000 0x00 0x00 = .ok .plp ∧
  decode 0b00000000 0x00 0x00 = .ok .brk

/-- The decoder rejects an opcode byte exactly when R68 lists it, by name, whatever follows it (decision D25, log entry
10). Rules: 30_encoding.md R64, 30_encoding.md R66, 30_encoding.md R68, 92_eei_decisions.md D25. -/
def Obligations.DecoderRejectsExactlyTheListedBytes : Prop :=
  (∀ b0 b1 b2 : Byte, decode b0 b1 b2 = .error (.unknownOpcode b0) ↔ b0 ∈ illegalOpcodes) ∧
  (∀ b0 b1 b2 : Byte, (∃ i, decode b0 b1 b2 = .ok i) ↔ b0 ∉ illegalOpcodes) ∧
  illegalOpcodes.Nodup ∧ illegalOpcodes.length = 105 ∧
  (opcodeTable.map (·.opcode)).Nodup ∧ opcodeTable.length = 151

/-- Decoding the encoding of any instruction, whatever bytes follow it, gives it back with every operand (decision D25,
log entry 10). Rules: 30_encoding.md R60, 30_encoding.md R62, 30_encoding.md R63, 30_encoding.md R66,
92_eei_decisions.md D25. -/
def Obligations.EncodeThenDecodeGivesTheInstruction : Prop :=
  ∀ (i : Instr) (rest : List Byte),
    decodeBytes (encode i ++ rest) = .ok (i, rest) ∧ i.length = i.mode.length ∧ wordWf (encode i) = true

/-- An instruction decoded from three bytes encodes to exactly the bytes of it that were read (decision D25, log entry
10). Rules: 30_encoding.md R60, 30_encoding.md R62, 30_encoding.md R63, 30_encoding.md R66, 92_eei_decisions.md D25. -/
def Obligations.DecodingDropsNoBit : Prop :=
  ∀ (b0 b1 b2 : Byte) (i : Instr), decode b0 b1 b2 = .ok i → encode i = [b0, b1, b2].take i.length

/-- MemWrite replaces the byte at its address, and leaves every other byte and all other state. Rules: R42. -/
def Obligations.MemWriteReplacesOneByte : Prop :=
  ∀ (s : State) (addr : Addr) (v : Byte),
    (s.writeByte addr v).readByte addr = v ∧
    (∀ a, a ≠ addr → (s.writeByte addr v).readByte a = s.readByte a) ∧
    s.writeByte addr v = { s with mem := (s.writeByte addr v).mem }

/-- A write keeps the canonical form of memory, and two canonical memories that read alike are the same data (log entry
4). Rules: 20_memory.md R40, 20_memory.md R41, 20_memory.md R42. -/
def Obligations.CanonicalMemoriesReadingAlikeAreEqual : Prop :=
  (∀ (m : Memory) (a : Addr) (v : Byte), m.wf → (m.write a v).wf) ∧
  ∀ m k : Memory, m.wf → k.wf → (∀ a : Addr, m.read a = k.read a) → m = k

/-- Push writes at 0x0100 + SP and then decrements; Pull increments first; both wrap modulo 256; so a Pull undoes a Push
(derived in R54). Rules: 20_memory.md R52, 20_memory.md R53, 20_memory.md R54. -/
def Obligations.PushAndPullWrapInPageOne : Prop :=
  ∀ (s : State) (v : Byte),
    (∀ a : Addr, (s.push v).readByte a = if a.toNat = 0x0100 + s.sp.toNat then v else s.readByte a) ∧
    ((s.push v).sp.toNat : Int) = ((s.sp.toNat : Int) - 1) % 256 ∧
    s.push v = { s with mem := (s.push v).mem, sp := (s.push v).sp } ∧
    s.pulled.sp.toNat = (s.sp.toNat + 1) % 256 ∧
    s.pulled = { s with sp := s.pulled.sp } ∧
    (∀ a : Addr, a.toNat = 0x0100 + s.pulled.sp.toNat → s.pullByte = s.readByte a) ∧
    (s.push v).pullByte = v ∧ (s.push v).pulled.sp = s.sp

/-- Every addressing format resolves to the address its rule computes (decisions D12, D13, log entry 14). Rules:
40_sequencer_addressing.md R89, 40_sequencer_addressing.md R90, 40_sequencer_addressing.md R91,
40_sequencer_addressing.md R92, 40_sequencer_addressing.md R93, 40_sequencer_addressing.md R94,
40_sequencer_addressing.md R95, 40_sequencer_addressing.md R96, 40_sequencer_addressing.md R97, 20_memory.md R44,
92_eei_decisions.md D12, 92_eei_decisions.md D13. -/
def Obligations.EffectiveAddressesFollowTheFormats : Prop :=
  ∀ (s : State) (z : Byte) (w : Addr),
    (s.eaZp z).toNat = z.toNat ∧
    (s.eaZpx z).toNat = (z.toNat + s.x.toNat) % 256 ∧
    (s.eaZpy z).toNat = (z.toNat + s.y.toNat) % 256 ∧
    s.eaAbs w = w ∧
    (s.eaAbx w).toNat = (w.toNat + s.x.toNat) % 65536 ∧
    (s.eaAby w).toNat = (w.toNat + s.y.toNat) % 65536 ∧
    (∀ p q : Addr, p.toNat = (z.toNat + s.x.toNat) % 256 → q.toNat = (p.toNat + 1) % 256 →
      (s.eaIzx z).toNat = 256 * (s.readByte q).toNat + (s.readByte p).toNat) ∧
    (∀ p q : Addr, p.toNat = z.toNat → q.toNat = (p.toNat + 1) % 256 →
      (s.eaIzy z).toNat = (256 * (s.readByte q).toNat + (s.readByte p).toNat + s.y.toNat) % 65536) ∧
    (∀ q : Addr, q.toNat = (w.toNat + 1) % 65536 →
      (s.eaInd w).toNat = 256 * (s.readByte q).toNat + (s.readByte w).toNat) ∧
    (∀ p q : Addr, (s.read16 p q).toNat = 256 * (s.readByte q).toNat + (s.readByte p).toNat)

/-- PackP has the weights of R17, UnpackP writes all seven flags, and packing after unpacking keeps all but bits 4, 5
(derived in R18) (decision D11, log entry 14). Rules: 10_state.md R17, 10_state.md R18, 92_eei_decisions.md D11. -/
def Obligations.StatusBytePacksAndUnpacks : Prop :=
  (∀ (f : Flags) (b : Bool), (f.pack b).toNat = packNat f b) ∧
  (∀ v : Byte, Flags.unpack v = unpackBits v) ∧
  (∀ (v : Byte) (b : Bool), (Flags.unpack v).pack b = (v &&& 0xCF) ||| 0x20 ||| (byteOf b.toNat <<< 4))

/-- LDA, LDX and LDY, in all eighteen forms, copy the operand byte to their register and set Z and N from it, nothing
else. Rules: R110, R111, R112. -/
def Obligations.LoadsCopyTheOperandAndSetZN : Prop :=
  ∀ s : State,
    ImmForm 0xA9 .ldaImm (LoadsA s) ∧
    ByteForm 0xA5 .ldaZp s.eaZp (fun i ea => LoadsA s i (s.readByte ea)) ∧
    ByteForm 0xB5 .ldaZpx s.eaZpx (fun i ea => LoadsA s i (s.readByte ea)) ∧
    WordForm 0xAD .ldaAbs s.eaAbs (fun i ea => LoadsA s i (s.readByte ea)) ∧
    WordForm 0xBD .ldaAbx s.eaAbx (fun i ea => LoadsA s i (s.readByte ea)) ∧
    WordForm 0xB9 .ldaAby s.eaAby (fun i ea => LoadsA s i (s.readByte ea)) ∧
    ByteForm 0xA1 .ldaIzx s.eaIzx (fun i ea => LoadsA s i (s.readByte ea)) ∧
    ByteForm 0xB1 .ldaIzy s.eaIzy (fun i ea => LoadsA s i (s.readByte ea)) ∧
    ImmForm 0xA2 .ldxImm (LoadsX s) ∧
    ByteForm 0xA6 .ldxZp s.eaZp (fun i ea => LoadsX s i (s.readByte ea)) ∧
    ByteForm 0xB6 .ldxZpy s.eaZpy (fun i ea => LoadsX s i (s.readByte ea)) ∧
    WordForm 0xAE .ldxAbs s.eaAbs (fun i ea => LoadsX s i (s.readByte ea)) ∧
    WordForm 0xBE .ldxAby s.eaAby (fun i ea => LoadsX s i (s.readByte ea)) ∧
    ImmForm 0xA0 .ldyImm (LoadsY s) ∧
    ByteForm 0xA4 .ldyZp s.eaZp (fun i ea => LoadsY s i (s.readByte ea)) ∧
    ByteForm 0xB4 .ldyZpx s.eaZpx (fun i ea => LoadsY s i (s.readByte ea)) ∧
    WordForm 0xAC .ldyAbs s.eaAbs (fun i ea => LoadsY s i (s.readByte ea)) ∧
    WordForm 0xBC .ldyAbx s.eaAbx (fun i ea => LoadsY s i (s.readByte ea))

/-- STA, STX and STY, in all thirteen forms, store their register at the effective address and change nothing else.
Rules: R113, R114, R115. -/
def Obligations.StoresWriteOneByteAndNoFlag : Prop :=
  ∀ s : State,
    ByteForm 0x85 .staZp s.eaZp (Stores s s.a) ∧
    ByteForm 0x95 .staZpx s.eaZpx (Stores s s.a) ∧
    WordForm 0x8D .staAbs s.eaAbs (Stores s s.a) ∧
    WordForm 0x9D .staAbx s.eaAbx (Stores s s.a) ∧
    WordForm 0x99 .staAby s.eaAby (Stores s s.a) ∧
    ByteForm 0x81 .staIzx s.eaIzx (Stores s s.a) ∧
    ByteForm 0x91 .staIzy s.eaIzy (Stores s s.a) ∧
    ByteForm 0x86 .stxZp s.eaZp (Stores s s.x) ∧
    ByteForm 0x96 .stxZpy s.eaZpy (Stores s s.x) ∧
    WordForm 0x8E .stxAbs s.eaAbs (Stores s s.x) ∧
    ByteForm 0x84 .styZp s.eaZp (Stores s s.y) ∧
    ByteForm 0x94 .styZpx s.eaZpx (Stores s s.y) ∧
    WordForm 0x8C .styAbs s.eaAbs (Stores s s.y)

/-- TAX, TAY, TSX, TXA and TYA copy their source and set Z and N from it; TXS copies X to SP and writes no flag
(decision D3, log entry 14). Rules: 41_load_store_transfer.md R116, 41_load_store_transfer.md R117,
41_load_store_transfer.md R118, 41_load_store_transfer.md R119, 41_load_store_transfer.md R120,
41_load_store_transfer.md R121, 92_eei_decisions.md D3. -/
def Obligations.TransfersCopyARegister : Prop :=
  ∀ s : State,
    ImpForm 0xAA .tax (fun i => LoadsX s i s.a) ∧
    ImpForm 0xA8 .tay (fun i => LoadsY s i s.a) ∧
    ImpForm 0xBA .tsx (fun i => LoadsX s i s.sp) ∧
    ImpForm 0x8A .txa (fun i => LoadsA s i s.x) ∧
    ImpForm 0x98 .tya (fun i => LoadsA s i s.y) ∧
    ImpForm 0x9A .txs (fun i => exec i s = .next { s with sp := s.x, pc := nextPc s i })

/-- ADC, in all eight forms, adds by the decimal path exactly when D = 1 and DECIMAL_ENABLE, else by the binary path
(decisions D7, D8, log entries 1, 2, 14). Rules: 42_arithmetic_compare.md R130, 92_eei_decisions.md D7,
92_eei_decisions.md D8. -/
def Obligations.AdcTakesThePathOfDAndWritesItsResult : Prop :=
  ∀ s : State,
    (decimalPath s →
      ImmForm 0x69 .adcImm (fun i m => AluWrites s i (addDecimal s.a m s.flags.c)) ∧
      ByteForm 0x65 .adcZp s.eaZp (fun i ea => AluWrites s i (addDecimal s.a (s.readByte ea) s.flags.c)) ∧
      ByteForm 0x75 .adcZpx s.eaZpx (fun i ea => AluWrites s i (addDecimal s.a (s.readByte ea) s.flags.c)) ∧
      WordForm 0x6D .adcAbs s.eaAbs (fun i ea => AluWrites s i (addDecimal s.a (s.readByte ea) s.flags.c)) ∧
      WordForm 0x7D .adcAbx s.eaAbx (fun i ea => AluWrites s i (addDecimal s.a (s.readByte ea) s.flags.c)) ∧
      WordForm 0x79 .adcAby s.eaAby (fun i ea => AluWrites s i (addDecimal s.a (s.readByte ea) s.flags.c)) ∧
      ByteForm 0x61 .adcIzx s.eaIzx (fun i ea => AluWrites s i (addDecimal s.a (s.readByte ea) s.flags.c)) ∧
      ByteForm 0x71 .adcIzy s.eaIzy (fun i ea => AluWrites s i (addDecimal s.a (s.readByte ea) s.flags.c))) ∧
    (¬ decimalPath s →
      ImmForm 0x69 .adcImm (fun i m => AluWrites s i (addBinary s.a m s.flags.c)) ∧
      ByteForm 0x65 .adcZp s.eaZp (fun i ea => AluWrites s i (addBinary s.a (s.readByte ea) s.flags.c)) ∧
      ByteForm 0x75 .adcZpx s.eaZpx (fun i ea => AluWrites s i (addBinary s.a (s.readByte ea) s.flags.c)) ∧
      WordForm 0x6D .adcAbs s.eaAbs (fun i ea => AluWrites s i (addBinary s.a (s.readByte ea) s.flags.c)) ∧
      WordForm 0x7D .adcAbx s.eaAbx (fun i ea => AluWrites s i (addBinary s.a (s.readByte ea) s.flags.c)) ∧
      WordForm 0x79 .adcAby s.eaAby (fun i ea => AluWrites s i (addBinary s.a (s.readByte ea) s.flags.c)) ∧
      ByteForm 0x61 .adcIzx s.eaIzx (fun i ea => AluWrites s i (addBinary s.a (s.readByte ea) s.flags.c)) ∧
      ByteForm 0x71 .adcIzy s.eaIzy (fun i ea => AluWrites s i (addBinary s.a (s.readByte ea) s.flags.c)))

/-- The binary adder: result modulo 256, carry above 0xFF, overflow by R135 and so when the signed sum leaves -128..127
(derived there). Rules: 42_arithmetic_compare.md R135. -/
def Obligations.AdcBinaryCarryAndOverflow : Prop :=
  ∀ (a m : Byte) (c : Bool),
    (adcBinary a m c).value.toNat = (a.toNat + m.toNat + c.toNat) % 256 ∧
    ((adcBinary a m c).c = true ↔ 0xFF < a.toNat + m.toNat + c.toNat) ∧
    ((adcBinary a m c).v = true ↔
      (m.toNat < 0x80 ∧ a.toNat < 0x80 ∧ 0x80 ≤ (adcBinary a m c).value.toNat) ∨
      (0x80 ≤ m.toNat ∧ 0x80 ≤ a.toNat ∧ (adcBinary a m c).value.toNat < 0x80)) ∧
    ((adcBinary a m c).v = true ↔ sext8 a + sext8 m + c.toNat < -128 ∨ 127 < sext8 a + sext8 m + c.toNat) ∧
    ((adcBinary a m c).z = true ↔ (adcBinary a m c).value.toNat = 0) ∧
    ((adcBinary a m c).n = true ↔ 0x80 ≤ (adcBinary a m c).value.toNat)

/-- The decimal adder on BCD digits wraps at 100 with carry above 99; V, and the result on invalid digits, are the free
values (decision D8, log entries 2, 14). Rules: 42_arithmetic_compare.md R136, 92_eei_decisions.md D8. -/
def Obligations.AdcDecimalWrapsAtOneHundred : Prop :=
  ∀ (a m : Byte) (c : Bool),
    (IsBcd a ∧ IsBcd m →
      IsBcd (adcDecimal a m c).value ∧
      bcdNat (adcDecimal a m c).value = (bcdNat a + bcdNat m + c.toNat) % 100 ∧
      ((adcDecimal a m c).c = true ↔ 99 < bcdNat a + bcdNat m + c.toNat) ∧
      ((adcDecimal a m c).z = true ↔ (adcDecimal a m c).value.toNat = 0) ∧
      ((adcDecimal a m c).n = true ↔ 0x80 ≤ (adcDecimal a m c).value.toNat) ∧
      (adcDecimal a m c).v = Config.decimalV a m c .adc) ∧
    (¬ (IsBcd a ∧ IsBcd m) → adcDecimal a m c = Config.invalidBcd a m c .adc)

/-- The decimal subtracter on BCD digits wraps at 100 and clears the carry on a borrow; free values as for the adder
(decision D8, log entries 2, 14). Rules: 42_arithmetic_compare.md R137, 92_eei_decisions.md D8. -/
def Obligations.SbcDecimalBorrowsBelowZero : Prop :=
  ∀ (a m : Byte) (c : Bool),
    (IsBcd a ∧ IsBcd m →
      IsBcd (sbcDecimal a m c).value ∧
      (bcdNat (sbcDecimal a m c).value : Int) = ((bcdNat a : Int) - bcdNat m - (1 - c.toNat)) % 100 ∧
      ((sbcDecimal a m c).c = true ↔ 0 ≤ (bcdNat a : Int) - bcdNat m - (1 - c.toNat)) ∧
      ((sbcDecimal a m c).z = true ↔ (sbcDecimal a m c).value.toNat = 0) ∧
      ((sbcDecimal a m c).n = true ↔ 0x80 ≤ (sbcDecimal a m c).value.toNat) ∧
      (sbcDecimal a m c).v = Config.decimalV a m c .sbc) ∧
    (¬ (IsBcd a ∧ IsBcd m) → sbcDecimal a m c = Config.invalidBcd a m c .sbc)

/-- SBC, in all eight forms, subtracts: decimal when D = 1 and DECIMAL_ENABLE, else by adding the complement, spelled
out (decisions D7, D8, log entries 1, 2, 14). Rules: 42_arithmetic_compare.md R131, 92_eei_decisions.md D7,
92_eei_decisions.md D8. -/
def Obligations.SbcSubtractsWithBorrow : Prop :=
  (∀ s : State,
    (decimalPath s →
      ImmForm 0xE9 .sbcImm (fun i m => AluWrites s i (subDecimal s.a m s.flags.c)) ∧
      ByteForm 0xE5 .sbcZp s.eaZp (fun i ea => AluWrites s i (subDecimal s.a (s.readByte ea) s.flags.c)) ∧
      ByteForm 0xF5 .sbcZpx s.eaZpx (fun i ea => AluWrites s i (subDecimal s.a (s.readByte ea) s.flags.c)) ∧
      WordForm 0xED .sbcAbs s.eaAbs (fun i ea => AluWrites s i (subDecimal s.a (s.readByte ea) s.flags.c)) ∧
      WordForm 0xFD .sbcAbx s.eaAbx (fun i ea => AluWrites s i (subDecimal s.a (s.readByte ea) s.flags.c)) ∧
      WordForm 0xF9 .sbcAby s.eaAby (fun i ea => AluWrites s i (subDecimal s.a (s.readByte ea) s.flags.c)) ∧
      ByteForm 0xE1 .sbcIzx s.eaIzx (fun i ea => AluWrites s i (subDecimal s.a (s.readByte ea) s.flags.c)) ∧
      ByteForm 0xF1 .sbcIzy s.eaIzy (fun i ea => AluWrites s i (subDecimal s.a (s.readByte ea) s.flags.c))) ∧
    (¬ decimalPath s →
      ImmForm 0xE9 .sbcImm (fun i m => AluWrites s i (subBinary s.a m s.flags.c)) ∧
      ByteForm 0xE5 .sbcZp s.eaZp (fun i ea => AluWrites s i (subBinary s.a (s.readByte ea) s.flags.c)) ∧
      ByteForm 0xF5 .sbcZpx s.eaZpx (fun i ea => AluWrites s i (subBinary s.a (s.readByte ea) s.flags.c)) ∧
      WordForm 0xED .sbcAbs s.eaAbs (fun i ea => AluWrites s i (subBinary s.a (s.readByte ea) s.flags.c)) ∧
      WordForm 0xFD .sbcAbx s.eaAbx (fun i ea => AluWrites s i (subBinary s.a (s.readByte ea) s.flags.c)) ∧
      WordForm 0xF9 .sbcAby s.eaAby (fun i ea => AluWrites s i (subBinary s.a (s.readByte ea) s.flags.c)) ∧
      ByteForm 0xE1 .sbcIzx s.eaIzx (fun i ea => AluWrites s i (subBinary s.a (s.readByte ea) s.flags.c)) ∧
      ByteForm 0xF1 .sbcIzy s.eaIzy (fun i ea => AluWrites s i (subBinary s.a (s.readByte ea) s.flags.c)))) ∧
  ∀ (a m : Byte) (c : Bool), adcBinary a (m ^^^ 0xFF) c = subBinary a m c

/-- CMP, CPX and CPY, in all fourteen forms, set C, Z, N from register and operand and change nothing else (decision D9,
log entry 14). Rules: 42_arithmetic_compare.md R132, 42_arithmetic_compare.md R133, 42_arithmetic_compare.md R134,
42_arithmetic_compare.md R139, 92_eei_decisions.md D9. -/
def Obligations.ComparesWriteCZNOnly : Prop :=
  ∀ s : State,
    ImmForm 0xC9 .cmpImm (fun i m => OnlyFlags s (compareFlags s.flags s.a m) i) ∧
    ByteForm 0xC5 .cmpZp s.eaZp (fun i ea => OnlyFlags s (compareFlags s.flags s.a (s.readByte ea)) i) ∧
    ByteForm 0xD5 .cmpZpx s.eaZpx (fun i ea => OnlyFlags s (compareFlags s.flags s.a (s.readByte ea)) i) ∧
    WordForm 0xCD .cmpAbs s.eaAbs (fun i ea => OnlyFlags s (compareFlags s.flags s.a (s.readByte ea)) i) ∧
    WordForm 0xDD .cmpAbx s.eaAbx (fun i ea => OnlyFlags s (compareFlags s.flags s.a (s.readByte ea)) i) ∧
    WordForm 0xD9 .cmpAby s.eaAby (fun i ea => OnlyFlags s (compareFlags s.flags s.a (s.readByte ea)) i) ∧
    ByteForm 0xC1 .cmpIzx s.eaIzx (fun i ea => OnlyFlags s (compareFlags s.flags s.a (s.readByte ea)) i) ∧
    ByteForm 0xD1 .cmpIzy s.eaIzy (fun i ea => OnlyFlags s (compareFlags s.flags s.a (s.readByte ea)) i) ∧
    ImmForm 0xE0 .cpxImm (fun i m => OnlyFlags s (compareFlags s.flags s.x m) i) ∧
    ByteForm 0xE4 .cpxZp s.eaZp (fun i ea => OnlyFlags s (compareFlags s.flags s.x (s.readByte ea)) i) ∧
    WordForm 0xEC .cpxAbs s.eaAbs (fun i ea => OnlyFlags s (compareFlags s.flags s.x (s.readByte ea)) i) ∧
    ImmForm 0xC0 .cpyImm (fun i m => OnlyFlags s (compareFlags s.flags s.y m) i) ∧
    ByteForm 0xC4 .cpyZp s.eaZp (fun i ea => OnlyFlags s (compareFlags s.flags s.y (s.readByte ea)) i) ∧
    WordForm 0xCC .cpyAbs s.eaAbs (fun i ea => OnlyFlags s (compareFlags s.flags s.y (s.readByte ea)) i)

/-- In binary mode ADC of b with C = 0, then SEC, then SBC of b restores A, and the final carry is the complement of the
ADC's. Rules: R138, R130, R131. -/
def Obligations.SbcUndoesAdc : Prop :=
  ∀ (s : State) (b : Byte), ¬ decimalPath s → s.flags.c = false →
    ∃ t1 t2 t3, exec (.adcImm b) s = .next t1 ∧ exec .sec t1 = .next t2 ∧ exec (.sbcImm b) t2 = .next t3 ∧
      t3.a = s.a ∧ t3.flags.c = !t1.flags.c

/-- AND, ORA and EOR, in all twenty-four forms, combine A with the operand and set Z and N from A, nothing else. Rules:
R140, R141, R142. -/
def Obligations.LogicCombinesAWithTheOperand : Prop :=
  ∀ s : State,
    ImmForm 0x29 .andImm (fun i m => LoadsA s i (s.a &&& m)) ∧
    ByteForm 0x25 .andZp s.eaZp (fun i ea => LoadsA s i (s.a &&& s.readByte ea)) ∧
    ByteForm 0x35 .andZpx s.eaZpx (fun i ea => LoadsA s i (s.a &&& s.readByte ea)) ∧
    WordForm 0x2D .andAbs s.eaAbs (fun i ea => LoadsA s i (s.a &&& s.readByte ea)) ∧
    WordForm 0x3D .andAbx s.eaAbx (fun i ea => LoadsA s i (s.a &&& s.readByte ea)) ∧
    WordForm 0x39 .andAby s.eaAby (fun i ea => LoadsA s i (s.a &&& s.readByte ea)) ∧
    ByteForm 0x21 .andIzx s.eaIzx (fun i ea => LoadsA s i (s.a &&& s.readByte ea)) ∧
    ByteForm 0x31 .andIzy s.eaIzy (fun i ea => LoadsA s i (s.a &&& s.readByte ea)) ∧
    ImmForm 0x09 .oraImm (fun i m => LoadsA s i (s.a ||| m)) ∧
    ByteForm 0x05 .oraZp s.eaZp (fun i ea => LoadsA s i (s.a ||| s.readByte ea)) ∧
    ByteForm 0x15 .oraZpx s.eaZpx (fun i ea => LoadsA s i (s.a ||| s.readByte ea)) ∧
    WordForm 0x0D .oraAbs s.eaAbs (fun i ea => LoadsA s i (s.a ||| s.readByte ea)) ∧
    WordForm 0x1D .oraAbx s.eaAbx (fun i ea => LoadsA s i (s.a ||| s.readByte ea)) ∧
    WordForm 0x19 .oraAby s.eaAby (fun i ea => LoadsA s i (s.a ||| s.readByte ea)) ∧
    ByteForm 0x01 .oraIzx s.eaIzx (fun i ea => LoadsA s i (s.a ||| s.readByte ea)) ∧
    ByteForm 0x11 .oraIzy s.eaIzy (fun i ea => LoadsA s i (s.a ||| s.readByte ea)) ∧
    ImmForm 0x49 .eorImm (fun i m => LoadsA s i (s.a ^^^ m)) ∧
    ByteForm 0x45 .eorZp s.eaZp (fun i ea => LoadsA s i (s.a ^^^ s.readByte ea)) ∧
    ByteForm 0x55 .eorZpx s.eaZpx (fun i ea => LoadsA s i (s.a ^^^ s.readByte ea)) ∧
    WordForm 0x4D .eorAbs s.eaAbs (fun i ea => LoadsA s i (s.a ^^^ s.readByte ea)) ∧
    WordForm 0x5D .eorAbx s.eaAbx (fun i ea => LoadsA s i (s.a ^^^ s.readByte ea)) ∧
    WordForm 0x59 .eorAby s.eaAby (fun i ea => LoadsA s i (s.a ^^^ s.readByte ea)) ∧
    ByteForm 0x41 .eorIzx s.eaIzx (fun i ea => LoadsA s i (s.a ^^^ s.readByte ea)) ∧
    ByteForm 0x51 .eorIzy s.eaIzy (fun i ea => LoadsA s i (s.a ^^^ s.readByte ea))

/-- BIT, in both forms, sets Z from A AND operand, N and V from bits 7 and 6 of the operand, and changes nothing else.
Rules: R143. -/
def Obligations.BitTestsTheOperand : Prop :=
  ∀ s : State,
    ByteForm 0x24 .bitZp s.eaZp (fun i ea => OnlyFlags s { s.flags with z := decide ((s.a &&& s.readByte ea).toNat = 0), n := (s.readByte ea).toNat.testBit 7, v := (s.readByte ea).toNat.testBit 6 } i) ∧
    WordForm 0x2C .bitAbs s.eaAbs (fun i ea => OnlyFlags s { s.flags with z := decide ((s.a &&& s.readByte ea).toNat = 0), n := (s.readByte ea).toNat.testBit 7, v := (s.readByte ea).toNat.testBit 6 } i)

/-- ASL doubles and LSR halves A or a memory byte; C is the bit shifted out, Z and N from the result, nothing else.
Rules: R144, R145. -/
def Obligations.ShiftsMoveOneBit : Prop :=
  ∀ s : State,
    ImpForm 0x0A .aslAcc (fun i => ModifiesA s i (byteOf (2 * s.a.toNat)) (znFrom { s.flags with c := decide (0x80 ≤ s.a.toNat) } (byteOf (2 * s.a.toNat)))) ∧
    ByteForm 0x06 .aslZp s.eaZp (fun i ea => Modifies s i ea (byteOf (2 * (s.readByte ea).toNat)) (znFrom { s.flags with c := decide (0x80 ≤ (s.readByte ea).toNat) } (byteOf (2 * (s.readByte ea).toNat)))) ∧
    ByteForm 0x16 .aslZpx s.eaZpx (fun i ea => Modifies s i ea (byteOf (2 * (s.readByte ea).toNat)) (znFrom { s.flags with c := decide (0x80 ≤ (s.readByte ea).toNat) } (byteOf (2 * (s.readByte ea).toNat)))) ∧
    WordForm 0x0E .aslAbs s.eaAbs (fun i ea => Modifies s i ea (byteOf (2 * (s.readByte ea).toNat)) (znFrom { s.flags with c := decide (0x80 ≤ (s.readByte ea).toNat) } (byteOf (2 * (s.readByte ea).toNat)))) ∧
    WordForm 0x1E .aslAbx s.eaAbx (fun i ea => Modifies s i ea (byteOf (2 * (s.readByte ea).toNat)) (znFrom { s.flags with c := decide (0x80 ≤ (s.readByte ea).toNat) } (byteOf (2 * (s.readByte ea).toNat)))) ∧
    ImpForm 0x4A .lsrAcc (fun i => ModifiesA s i (byteOf (s.a.toNat / 2)) (znFrom { s.flags with c := decide (s.a.toNat % 2 = 1) } (byteOf (s.a.toNat / 2)))) ∧
    ByteForm 0x46 .lsrZp s.eaZp (fun i ea => Modifies s i ea (byteOf ((s.readByte ea).toNat / 2)) (znFrom { s.flags with c := decide ((s.readByte ea).toNat % 2 = 1) } (byteOf ((s.readByte ea).toNat / 2)))) ∧
    ByteForm 0x56 .lsrZpx s.eaZpx (fun i ea => Modifies s i ea (byteOf ((s.readByte ea).toNat / 2)) (znFrom { s.flags with c := decide ((s.readByte ea).toNat % 2 = 1) } (byteOf ((s.readByte ea).toNat / 2)))) ∧
    WordForm 0x4E .lsrAbs s.eaAbs (fun i ea => Modifies s i ea (byteOf ((s.readByte ea).toNat / 2)) (znFrom { s.flags with c := decide ((s.readByte ea).toNat % 2 = 1) } (byteOf ((s.readByte ea).toNat / 2)))) ∧
    WordForm 0x5E .lsrAbx s.eaAbx (fun i ea => Modifies s i ea (byteOf ((s.readByte ea).toNat / 2)) (znFrom { s.flags with c := decide ((s.readByte ea).toNat % 2 = 1) } (byteOf ((s.readByte ea).toNat / 2))))

/-- ROL and ROR rotate A or a memory byte by one bit through C; Z and N from the result, nothing else. Rules: R146,
R147. -/
def Obligations.RotatesPassThroughCarry : Prop :=
  ∀ s : State,
    ImpForm 0x2A .rolAcc (fun i => ModifiesA s i (byteOf (2 * s.a.toNat + s.flags.c.toNat)) (znFrom { s.flags with c := decide (0x80 ≤ s.a.toNat) } (byteOf (2 * s.a.toNat + s.flags.c.toNat)))) ∧
    ByteForm 0x26 .rolZp s.eaZp (fun i ea => Modifies s i ea (byteOf (2 * (s.readByte ea).toNat + s.flags.c.toNat)) (znFrom { s.flags with c := decide (0x80 ≤ (s.readByte ea).toNat) } (byteOf (2 * (s.readByte ea).toNat + s.flags.c.toNat)))) ∧
    ByteForm 0x36 .rolZpx s.eaZpx (fun i ea => Modifies s i ea (byteOf (2 * (s.readByte ea).toNat + s.flags.c.toNat)) (znFrom { s.flags with c := decide (0x80 ≤ (s.readByte ea).toNat) } (byteOf (2 * (s.readByte ea).toNat + s.flags.c.toNat)))) ∧
    WordForm 0x2E .rolAbs s.eaAbs (fun i ea => Modifies s i ea (byteOf (2 * (s.readByte ea).toNat + s.flags.c.toNat)) (znFrom { s.flags with c := decide (0x80 ≤ (s.readByte ea).toNat) } (byteOf (2 * (s.readByte ea).toNat + s.flags.c.toNat)))) ∧
    WordForm 0x3E .rolAbx s.eaAbx (fun i ea => Modifies s i ea (byteOf (2 * (s.readByte ea).toNat + s.flags.c.toNat)) (znFrom { s.flags with c := decide (0x80 ≤ (s.readByte ea).toNat) } (byteOf (2 * (s.readByte ea).toNat + s.flags.c.toNat)))) ∧
    ImpForm 0x6A .rorAcc (fun i => ModifiesA s i (byteOf (s.a.toNat / 2 + 128 * s.flags.c.toNat)) (znFrom { s.flags with c := decide (s.a.toNat % 2 = 1) } (byteOf (s.a.toNat / 2 + 128 * s.flags.c.toNat)))) ∧
    ByteForm 0x66 .rorZp s.eaZp (fun i ea => Modifies s i ea (byteOf ((s.readByte ea).toNat / 2 + 128 * s.flags.c.toNat)) (znFrom { s.flags with c := decide ((s.readByte ea).toNat % 2 = 1) } (byteOf ((s.readByte ea).toNat / 2 + 128 * s.flags.c.toNat)))) ∧
    ByteForm 0x76 .rorZpx s.eaZpx (fun i ea => Modifies s i ea (byteOf ((s.readByte ea).toNat / 2 + 128 * s.flags.c.toNat)) (znFrom { s.flags with c := decide ((s.readByte ea).toNat % 2 = 1) } (byteOf ((s.readByte ea).toNat / 2 + 128 * s.flags.c.toNat)))) ∧
    WordForm 0x6E .rorAbs s.eaAbs (fun i ea => Modifies s i ea (byteOf ((s.readByte ea).toNat / 2 + 128 * s.flags.c.toNat)) (znFrom { s.flags with c := decide ((s.readByte ea).toNat % 2 = 1) } (byteOf ((s.readByte ea).toNat / 2 + 128 * s.flags.c.toNat)))) ∧
    WordForm 0x7E .rorAbx s.eaAbx (fun i ea => Modifies s i ea (byteOf ((s.readByte ea).toNat / 2 + 128 * s.flags.c.toNat)) (znFrom { s.flags with c := decide ((s.readByte ea).toNat % 2 = 1) } (byteOf ((s.readByte ea).toNat / 2 + 128 * s.flags.c.toNat))))

/-- INC and DEC, in all eight forms, add or subtract 1 modulo 256 at the effective address and set Z and N, nothing
else. Rules: R148, R149. -/
def Obligations.IncAndDecCountAMemoryByte : Prop :=
  ∀ s : State,
    ByteForm 0xE6 .incZp s.eaZp (fun i ea => Modifies s i ea (byteOf ((s.readByte ea).toNat + 1)) (znFrom s.flags (byteOf ((s.readByte ea).toNat + 1)))) ∧
    ByteForm 0xF6 .incZpx s.eaZpx (fun i ea => Modifies s i ea (byteOf ((s.readByte ea).toNat + 1)) (znFrom s.flags (byteOf ((s.readByte ea).toNat + 1)))) ∧
    WordForm 0xEE .incAbs s.eaAbs (fun i ea => Modifies s i ea (byteOf ((s.readByte ea).toNat + 1)) (znFrom s.flags (byteOf ((s.readByte ea).toNat + 1)))) ∧
    WordForm 0xFE .incAbx s.eaAbx (fun i ea => Modifies s i ea (byteOf ((s.readByte ea).toNat + 1)) (znFrom s.flags (byteOf ((s.readByte ea).toNat + 1)))) ∧
    ByteForm 0xC6 .decZp s.eaZp (fun i ea => Modifies s i ea (byteOf ((s.readByte ea).toNat + 255)) (znFrom s.flags (byteOf ((s.readByte ea).toNat + 255)))) ∧
    ByteForm 0xD6 .decZpx s.eaZpx (fun i ea => Modifies s i ea (byteOf ((s.readByte ea).toNat + 255)) (znFrom s.flags (byteOf ((s.readByte ea).toNat + 255)))) ∧
    WordForm 0xCE .decAbs s.eaAbs (fun i ea => Modifies s i ea (byteOf ((s.readByte ea).toNat + 255)) (znFrom s.flags (byteOf ((s.readByte ea).toNat + 255)))) ∧
    WordForm 0xDE .decAbx s.eaAbx (fun i ea => Modifies s i ea (byteOf ((s.readByte ea).toNat + 255)) (znFrom s.flags (byteOf ((s.readByte ea).toNat + 255))))

/-- INX, INY, DEX, DEY add or subtract 1 modulo 256 and set Z and N, nothing else. Rules: R150, R151, R152, R153. -/
def Obligations.IndexRegistersCount : Prop :=
  ∀ s : State,
    ImpForm 0xE8 .inx (fun i => LoadsX s i (byteOf (s.x.toNat + 1))) ∧
    ImpForm 0xC8 .iny (fun i => LoadsY s i (byteOf (s.y.toNat + 1))) ∧
    ImpForm 0xCA .dex (fun i => LoadsX s i (byteOf (s.x.toNat + 255))) ∧
    ImpForm 0x88 .dey (fun i => LoadsY s i (byteOf (s.y.toNat + 255)))

/-- The eight branches go to pc0 + 2 + displacement exactly when their flag condition holds, else past themselves; only
PC changes (decision D2, log entry 14). Rules: 44_control_flow.md R160, 44_control_flow.md R161, 44_control_flow.md
R162, 44_control_flow.md R163, 44_control_flow.md R164, 44_control_flow.md R165, 44_control_flow.md R166,
44_control_flow.md R167, 44_control_flow.md R168, 92_eei_decisions.md D2. -/
def Obligations.BranchesGoByTheirFlag : Prop :=
  ∀ s : State,
    BranchesWhen s 0x90 .bcc (s.flags.c = false) ∧
    BranchesWhen s 0xB0 .bcs (s.flags.c = true) ∧
    BranchesWhen s 0xF0 .beq (s.flags.z = true) ∧
    BranchesWhen s 0xD0 .bne (s.flags.z = false) ∧
    BranchesWhen s 0x30 .bmi (s.flags.n = true) ∧
    BranchesWhen s 0x10 .bpl (s.flags.n = false) ∧
    BranchesWhen s 0x50 .bvc (s.flags.v = false) ∧
    BranchesWhen s 0x70 .bvs (s.flags.v = true)

/-- JMP goes to its operand, or to the little-endian pointer at its operand with no wrap inside the page; only PC
changes (decision D12, log entry 14). Rules: 44_control_flow.md R170, 92_eei_decisions.md D12. -/
def Obligations.JumpsReachTheirTarget : Prop :=
  ∀ s : State,
    WordForm 0x4C .jmpAbs (fun a => a) (fun i target => exec i s = .next { s with pc := target }) ∧
    WordForm 0x6C .jmpInd (fun p => wordOf (s.readByte p) (s.readByte (p + 1)))
      (fun i target => exec i s = .next { s with pc := target })

/-- JSR pushes the address of its own last byte and jumps to its operand bytes as they stand after the pushes (decisions
D2, D16, log entries 11, 14). Rules: 44_control_flow.md R171, 92_eei_decisions.md D2, 92_eei_decisions.md D16. -/
def Obligations.JsrPushesItsLastByteAndJumps : Prop :=
  ∀ (s : State) (addr : Addr), encode (.jsr addr) = [0x20, loByte addr, hiByte addr] ∧
    ∃ t, exec (.jsr addr) s = .next t ∧
      (t.readByte (State.stackAddr s.sp)).toNat = (s.pc.toNat + 2) % 65536 / 256 ∧
      (t.readByte (State.stackAddr (s.sp - 1))).toNat = (s.pc.toNat + 2) % 65536 % 256 ∧
      (∀ a, a ≠ State.stackAddr s.sp → a ≠ State.stackAddr (s.sp - 1) → t.readByte a = s.readByte a) ∧
      t = { s with mem := t.mem, sp := s.sp - 2, pc := t.pc } ∧
      (s.readByte (s.pc + 1) = loByte addr → s.readByte (s.pc + 2) = hiByte addr →
        t.pc = wordOf (t.readByte (s.pc + 1)) (t.readByte (s.pc + 2)) ∧
        ((∀ k : Byte, k = s.sp ∨ k = s.sp - 1 → s.pc + 1 ≠ State.stackAddr k ∧ s.pc + 2 ≠ State.stackAddr k) →
          t.pc = addr))

/-- RTS pulls the address low byte first and goes one past it; only PC and SP change (decision D2, log entry 14). Rules:
44_control_flow.md R172, 92_eei_decisions.md D2. -/
def Obligations.RtsReturnsPastThePulledAddress : Prop :=
  ∀ s : State, ImpForm 0x60 .rts (fun i => ∃ t, exec i s = .next t ∧ t = { s with sp := s.sp + 2, pc := t.pc } ∧
    t.pc.toNat = (256 * (s.readByte (State.stackAddr (s.sp + 2))).toNat +
      (s.readByte (State.stackAddr (s.sp + 1))).toNat + 1) % 65536)

/-- An RTS executed on the state a JSR leaves lands on the instruction after the call with SP, registers and flags
restored (decision D2, log entry 14). Rules: 44_control_flow.md R171, 44_control_flow.md R172, 92_eei_decisions.md
D2. -/
def Obligations.RtsAfterJsrReturnsPastTheCall : Prop :=
  ∀ (s : State) (addr : Addr), ∃ t1 t2, exec (.jsr addr) s = .next t1 ∧ exec .rts t1 = .next t2 ∧
    t2 = { s with mem := t1.mem, pc := s.pc + 3 }

/-- PHA pushes A and PHP the status with bits 4 and 5 set; no flag and no other byte changes (decision D11, log entry
14). Rules: 45_stack_flags_system.md R180, 45_stack_flags_system.md R181, 10_state.md R19, 92_eei_decisions.md D11. -/
def Obligations.PushesStoreAOrTheStatus : Prop :=
  ∀ s : State,
    ImpForm 0x48 .pha (fun i => ∃ t, exec i s = .next t ∧ t.readByte (State.stackAddr s.sp) = s.a ∧
      (∀ a, a ≠ State.stackAddr s.sp → t.readByte a = s.readByte a) ∧
      t = { s with mem := t.mem, sp := s.sp - 1, pc := nextPc s i }) ∧
    ImpForm 0x08 .php (fun i => ∃ t, exec i s = .next t ∧
      (t.readByte (State.stackAddr s.sp)).toNat = packNat s.flags true ∧
      (∀ a, a ≠ State.stackAddr s.sp → t.readByte a = s.readByte a) ∧
      t = { s with mem := t.mem, sp := s.sp - 1, pc := nextPc s i })

/-- PLA pulls A and sets Z and N from it; PLP pulls all seven flags; nothing else but SP and PC changes (decisions D10,
D11, log entry 14). Rules: 45_stack_flags_system.md R182, 45_stack_flags_system.md R183, 92_eei_decisions.md D10,
92_eei_decisions.md D11. -/
def Obligations.PullsLoadAOrAllFlags : Prop :=
  ∀ s : State,
    ImpForm 0x68 .pla (fun i => exec i s = .next { s with
      a := s.readByte (State.stackAddr (s.sp + 1))
      flags := znFrom s.flags (s.readByte (State.stackAddr (s.sp + 1)))
      sp := s.sp + 1
      pc := nextPc s i }) ∧
    ImpForm 0x28 .plp (fun i => exec i s = .next { s with
      flags := unpackBits (s.readByte (State.stackAddr (s.sp + 1)))
      sp := s.sp + 1
      pc := nextPc s i })

/-- CLC, CLD, CLI, CLV, SEC, SED, SEI set or clear exactly their flag; only PC changes besides. Rules: R184, R185, R186,
R187, R188, R189, R190. -/
def Obligations.FlagInstructionsWriteTheirFlagOnly : Prop :=
  ∀ s : State,
    ImpForm 0x18 .clc (OnlyFlags s { s.flags with c := false }) ∧
    ImpForm 0xD8 .cld (OnlyFlags s { s.flags with d := false }) ∧
    ImpForm 0x58 .cli (OnlyFlags s { s.flags with i := false }) ∧
    ImpForm 0xB8 .clv (OnlyFlags s { s.flags with v := false }) ∧
    ImpForm 0x38 .sec (OnlyFlags s { s.flags with c := true }) ∧
    ImpForm 0xF8 .sed (OnlyFlags s { s.flags with d := true }) ∧
    ImpForm 0x78 .sei (OnlyFlags s { s.flags with i := true })

/-- NOP changes nothing but PC, and a step that runs it nothing but PC and the cycle total (decisions D2, D19, log
entries 3, 14, 15). Rules: 45_stack_flags_system.md R191, 40_sequencer_addressing.md R80, 40_sequencer_addressing.md
R99, 92_eei_decisions.md D2, 92_eei_decisions.md D19. -/
def Obligations.NopMovesOnlyThePc : Prop :=
  ∀ s : State, ImpForm 0xEA .nop (fun i => exec i s = .next { s with pc := s.pc + 1 }) ∧
    (Iterates s → s.interruptCheck = s → s.readByte s.pc = 0xEA →
      step s = .next { s with pc := s.pc + 1, cyc := s.cyc + s.straps.baseCycles 0xEA })

/-- BRK pushes pc0 + 2 and the status with bit 4 set, sets I, loads PC from 0xFFFE, and halts exactly under
HALT_ON_BREAK (decisions D4, D5, D11, log entries 1, 14). Rules: 45_stack_flags_system.md R196, 92_eei_decisions.md
D4, 92_eei_decisions.md D5, 92_eei_decisions.md D11. -/
def Obligations.BrkEntersThroughTheIrqVector : Prop :=
  ∀ s : State, ImpForm 0x00 .brk (fun i => ∃ t, exec i s = .next t ∧
    Entered { s with running := if s.straps.haltOnBreak = true then false else s.running } (s.pc + 2) true 0xFFFE t)

/-- RTI pulls the status, then PC low and high, and continues at exactly the pulled address (decision D11, log entry
14). Rules: 45_stack_flags_system.md R197, 92_eei_decisions.md D11. -/
def Obligations.RtiRestoresFlagsThenPc : Prop :=
  ∀ s : State, ImpForm 0x40 .rti (fun i => ∃ t, exec i s = .next t ∧
    t = { s with
      sp := s.sp + 3
      flags := unpackBits (s.readByte (State.stackAddr (s.sp + 1)))
      pc := t.pc } ∧
    t.pc.toNat = 256 * (s.readByte (State.stackAddr (s.sp + 3))).toNat + (s.readByte (State.stackAddr (s.sp + 2))).toNat)

/-- When the three bytes at PC, after the interrupt check, decode to i, a step is exec of i there plus the cycle charge
(decisions D19, D24, log entries 3, 12, 15). Rules: 40_sequencer_addressing.md R80, 40_sequencer_addressing.md R83,
40_sequencer_addressing.md R84, 40_sequencer_addressing.md R85, 40_sequencer_addressing.md R86,
40_sequencer_addressing.md R99, 92_eei_decisions.md D19, 92_eei_decisions.md D24. -/
def Obligations.StepRunsTheDecodedInstruction : Prop :=
  ∀ (s u t : State) (i : Instr), Iterates s → s.interruptCheck = u →
    decode (u.readByte u.pc) (u.readByte (u.pc + 1)) (u.readByte (u.pc + 2)) = .ok i → exec i u = .next t →
    step s = .next { t with cyc := t.cyc + t.straps.baseCycles (u.readByte u.pc) }

/-- A halted block does nothing; a stop request clears RUNNING and nothing else; only reset makes the block run again
(decision D17, log entries 6, 8). Rules: 40_sequencer_addressing.md R81, 92_eei_decisions.md D17. -/
def Obligations.HaltedDoesNothingAndStopHalts : Prop :=
  ∀ s : State,
    (s.running = false → step s = .next s) ∧
    (s.running = true → s.stopReq = true → step s = .next { s with running := false }) ∧
    (∀ e : EnvAction, e ≠ .applyReset → (s.envAct e).running = s.running) ∧
    (s.envAct .applyReset).running = true

/-- Fetching one of the 105 bytes clears RUNNING and records the byte and its address; nothing else changes (decision
D22, log entry 7). Rules: 60_exceptions.md R201, 92_eei_decisions.md D22. -/
def Obligations.UnknownOpcodeHaltsPrecisely : Prop :=
  ∀ s u : State, Iterates s → s.interruptCheck = u → u.readByte u.pc ∈ illegalOpcodes →
    step s = .next { u with running := false, fault := some { byte := u.readByte u.pc, pc := u.pc } }

/-- A step services NMI first and unconditionally, else IRQ while I is clear, by the entry sequence, then runs the
instruction there (decision D11, log entry 14). Rules: 60_exceptions.md R207, 60_exceptions.md R208,
60_exceptions.md R210, 10_state.md R19, 92_eei_decisions.md D11. -/
def Obligations.InterruptsAreTakenBeforeTheFetch : Prop :=
  ∀ s : State, Iterates s →
    (s.nmiPending = true →
      ∃ t, Entered { s with nmiPending := false } s.pc false 0xFFFA t ∧ step s = runInstruction t) ∧
    (s.nmiPending = false → s.irqPending = true → s.flags.i = false →
      ∃ t, Entered { s with irqPending := false } s.pc false 0xFFFE t ∧ step s = runInstruction t) ∧
    (s.nmiPending = false → (s.irqPending = true → s.flags.i = true) → step s = runInstruction s)

/-- RTI on the state an interrupt entry leaves restores PC, SP and the flags, with B = 0 after IRQ or NMI and B = 1
after BRK (decisions D5, D11, log entry 14). Rules: 60_exceptions.md R214, 92_eei_decisions.md D5,
92_eei_decisions.md D11. -/
def Obligations.RtiUndoesAnEntry : Prop :=
  (∀ (s : State) (vec : Addr), exec .rti (s.service vec) = .next { s with
    mem := (s.service vec).mem
    flags := { s.flags with b := false } }) ∧
  (∀ s : State, ∃ t1 t2, exec .brk s = .next t1 ∧ exec .rti t1 = .next t2 ∧ t2 = { s with
    mem := t1.mem
    running := t1.running
    flags := { s.flags with b := true }
    pc := s.pc + 2 })

/-- Every instruction on every state, and every step of every state, answers a next state (log entries 7, 8, 16). Rules:
40_sequencer_addressing.md R84, 60_exceptions.md R202, 60_exceptions.md R201, 92_eei_decisions.md D22. -/
def Obligations.NothingFaultsOrRefuses : Prop :=
  ∀ s : State, (∀ i : Instr, ∃ t, exec i s = .next t) ∧ ∃ t, step s = .next t

/-- A step adds BASE_CYCLES of the opcode it executed, and nothing for a halt, a stop, an unknown opcode or an interrupt
service (decision D19, log entries 3, 15). Rules: 40_sequencer_addressing.md R99, 92_eei_decisions.md D19. -/
def Obligations.CyclesAreChargedPerExecutedInstruction : Prop :=
  ∀ s t : State, step s = .next t →
    (Iterates s ∧ s.interruptCheck.readByte s.interruptCheck.pc ∉ illegalOpcodes →
      t.cyc = s.cyc + s.straps.baseCycles (s.interruptCheck.readByte s.interruptCheck.pc)) ∧
    (¬ (Iterates s ∧ s.interruptCheck.readByte s.interruptCheck.pc ∉ illegalOpcodes) → t.cyc = s.cyc)

/-- The default base cycle count of every instruction is the one R244 prints for its mnemonic and format (log entry 3).
Rules: 70_reset_and_hazards.md R244, 92_eei_decisions.md D19. -/
def Obligations.DefaultBaseCyclesAreTheTable : Prop :=
  (∀ i : Instr, defaultBaseCycles i.opcode = r244 i.mnemonic i.mode) ∧
  (∀ (p : Straps) (op : Byte), p.cycleExceptions = [] → p.baseCycles op = defaultBaseCycles op) ∧
  (∀ (p : Straps) (op : Byte) (n : Nat) (l : List (Nat × Nat)),
    p.cycleExceptions = (op.toNat, n) :: l → p.baseCycles op = n)

/-- A step ends a run exactly on a stop request, an unknown opcode, or a BRK under HALT_ON_BREAK (decisions D4, D17,
D22, log entries 1, 6, 7, 14). Rules: 40_sequencer_addressing.md R104, 10_state.md R20, 40_sequencer_addressing.md
R81, 60_exceptions.md R201, 45_stack_flags_system.md R196, 92_eei_decisions.md D4, 92_eei_decisions.md D17,
92_eei_decisions.md D22. -/
def Obligations.ARunEndsByOneOfThreeCauses : Prop :=
  ∀ s t : State, s.running = true → step s = .next t →
    (t.running = false ↔
      s.stopReq = true ∨ s.interruptCheck.readByte s.interruptCheck.pc ∈ illegalOpcodes ∨
      (s.straps.haltOnBreak = true ∧ s.interruptCheck.readByte s.interruptCheck.pc = 0x00)) ∧
    (s.fault = none → (t.fault ≠ none ↔
      s.stopReq = false ∧ s.interruptCheck.readByte s.interruptCheck.pc ∈ illegalOpcodes))

/-- Requests set their latch and coalesce; a step that iterates clears NMI's, and IRQ's exactly when it services the IRQ
(decision D17, log entries 5, 6, 8). Rules: 10_state.md R21, 10_state.md R22, 60_exceptions.md R205,
60_exceptions.md R206, 60_exceptions.md R216, 40_sequencer_addressing.md R81, 92_eei_decisions.md D17. -/
def Obligations.LatchesAreSetByRequestsAndClearedByService : Prop :=
  (∀ s : State, s.envAct .requestIrq = { s with irqPending := true } ∧
    s.envAct .requestNmi = { s with nmiPending := true } ∧
    s.envAct .requestStop = { s with stopReq := true } ∧
    (s.envAct .requestIrq).envAct .requestIrq = s.envAct .requestIrq ∧
    (s.envAct .requestNmi).envAct .requestNmi = s.envAct .requestNmi ∧
    (s.envAct .requestStop).envAct .requestStop = s.envAct .requestStop) ∧
  (∀ s t : State, step s = .next t →
    (Iterates s → t.nmiPending = false ∧
      (t.irqPending = true ↔ s.irqPending = true ∧ (s.nmiPending = true ∨ s.flags.i = true))) ∧
    (¬ Iterates s → t.nmiPending = s.nmiPending ∧ t.irqPending = s.irqPending))

/-- Every instruction that is not a control transfer leaves PC at pc0 plus its length, modulo 65536 (decision D2, log
entry 14). Rules: 40_sequencer_addressing.md R85, 30_encoding.md R60, 30_encoding.md R61, 92_eei_decisions.md D2. -/
def Obligations.PcAdvancesByTheLength : Prop :=
  ∀ (i : Instr) (s : State), i.mnemonic ∉ controlMnemonics →
    ∃ t, exec i s = .next t ∧ t.pc.toNat = (s.pc.toNat + (encode i).length) % 65536

/-- A, X, Y and SP are written by no instruction but those their rules list. Rules: R10, R11, R12, R13. -/
def Obligations.RegistersHaveOnlyTheirWriters : Prop :=
  ∀ (i : Instr) (s t : State), exec i s = .next t →
    (i.mnemonic ∉ ([.adc, .sbc, .and, .ora, .eor, .asl, .lsr, .rol, .ror, .lda, .pla, .txa, .tya] : List Mnemonic) → t.a = s.a) ∧
    (i.mnemonic ∉ ([.ldx, .tax, .tsx, .inx, .dex] : List Mnemonic) → t.x = s.x) ∧
    (i.mnemonic ∉ ([.ldy, .tay, .iny, .dey] : List Mnemonic) → t.y = s.y) ∧
    (i.mnemonic ∉ ([.pha, .php, .pla, .plp, .jsr, .rts, .brk, .rti, .txs] : List Mnemonic) → t.sp = s.sp)

/-- Each of the seven flags is written by no instruction but those R15 lists for it (decisions D3, D11, log entry 14).
Rules: 10_state.md R15, 92_eei_decisions.md D3, 92_eei_decisions.md D11. -/
def Obligations.FlagsHaveOnlyTheirWriters : Prop :=
  ∀ (i : Instr) (s t : State), exec i s = .next t →
    (i.mnemonic ∉ ([.adc, .sbc, .cmp, .cpx, .cpy, .asl, .lsr, .rol, .ror, .clc, .sec, .plp, .rti] : List Mnemonic) → t.flags.c = s.flags.c) ∧
    (i.mnemonic ∉ ([.lda, .ldx, .ldy, .tax, .tay, .tsx, .txa, .tya, .pla, .adc, .sbc, .and, .ora, .eor, .asl, .lsr, .rol, .ror, .inc, .dec, .inx, .iny, .dex, .dey, .cmp, .cpx, .cpy, .bit, .plp, .rti] : List Mnemonic) → t.flags.z = s.flags.z) ∧
    (i.mnemonic ∉ ([.sei, .cli, .brk, .plp, .rti] : List Mnemonic) → t.flags.i = s.flags.i) ∧
    (i.mnemonic ∉ ([.sed, .cld, .plp, .rti] : List Mnemonic) → t.flags.d = s.flags.d) ∧
    (i.mnemonic ∉ ([.plp, .rti] : List Mnemonic) → t.flags.b = s.flags.b) ∧
    (i.mnemonic ∉ ([.adc, .sbc, .bit, .clv, .plp, .rti] : List Mnemonic) → t.flags.v = s.flags.v) ∧
    (i.mnemonic ∉ ([.lda, .ldx, .ldy, .tax, .tay, .tsx, .txa, .tya, .pla, .adc, .sbc, .and, .ora, .eor, .asl, .lsr, .rol, .ror, .inc, .dec, .inx, .iny, .dex, .dey, .cmp, .cpx, .cpy, .bit, .plp, .rti] : List Mnemonic) → t.flags.n = s.flags.n)

/-- Memory is written by no instruction but stores, INC, DEC, memory shifts and the pushes, and the pushes change no
byte outside page 1. Rules: R24, R42, R52, R13. -/
def Obligations.MemoryHasOnlyItsWriters : Prop :=
  ∀ (i : Instr) (s t : State), exec i s = .next t →
    (i.mnemonic ∉ ([.sta, .stx, .sty, .inc, .dec, .asl, .lsr, .rol, .ror, .pha, .php, .jsr, .brk] : List Mnemonic) → t.mem = s.mem) ∧
    (i.mode = .acc → t.mem = s.mem) ∧
    (i.mnemonic ∈ ([.pha, .php, .jsr, .brk] : List Mnemonic) → ∀ a : Addr, a.toNat / 256 ≠ 1 → t.readByte a = s.readByte a)

/-- No instruction writes a pending latch, the stop request, FAULT, CYC or a strap, and only BRK can clear RUNNING (log
entries 1, 6, 16). Rules: 10_state.md R20, 10_state.md R21, 10_state.md R22, 10_state.md R23, 10_state.md R25,
92_eei_decisions.md D4. -/
def Obligations.InstructionsLeaveTheLatchesAlone : Prop :=
  ∀ (i : Instr) (s t : State), exec i s = .next t →
    t.irqPending = s.irqPending ∧ t.nmiPending = s.nmiPending ∧ t.stopReq = s.stopReq ∧ t.fault = s.fault ∧
    t.cyc = s.cyc ∧ t.straps = s.straps ∧ (i.mnemonic ≠ .brk → t.running = s.running) ∧
    (t.running = true → s.running = true)

/-- Two states that differ only in the break flag step to states that differ at most in the break flag (decision D11,
log entry 14). Rules: 10_state.md R19, 10_state.md R17, 92_eei_decisions.md D11. -/
def Obligations.BreakFlagIsUnobservable : Prop :=
  ∀ (s : State) (b : Bool), ∃ t u, step s = .next t ∧ step (withBreak s b) = .next u ∧
    withBreak t false = withBreak u false

/-- Reset gives every register, flag and latch its stated value, loads PC from 0xFFFC, pushes nothing and keeps memory
(decision D14, log entry 9). Rules: 70_reset_and_hazards.md R230, 70_reset_and_hazards.md R233, 92_eei_decisions.md
D14. -/
def Obligations.ResetGivesTheStatedValues : Prop :=
  (∀ (p : Straps) (m : Memory),
    State.resetOver p m =
      { a := 0
        x := 0
        y := 0
        sp := 0xFF
        pc := wordOf (m.read 0xFFFC) (m.read 0xFFFD)
        flags := { c := false, z := false, i := true, d := false, b := false, v := false, n := false }
        running := true
        irqPending := false
        nmiPending := false
        stopReq := (State.resetOver p m).stopReq
        fault := none
        mem := m
        cyc := 0
        straps := p }) ∧
  (∀ s : State, s.envAct .applyReset = State.resetOver s.straps s.mem) ∧
  ∃ (p : Straps) (m : Memory), State.reset = State.resetOver p m

/-- A reset vector at a byte 0xFF makes the first step halt with UnknownOpcode(0xFF, target), no instruction executed
(decisions D14, D22, log entries 6, 7, 9). Rules: 70_reset_and_hazards.md R231, 60_exceptions.md R201,
95_test_vectors.md S8, 92_eei_decisions.md D14, 92_eei_decisions.md D22. -/
def Obligations.ResetVectorAtAnUnknownByteHaltsAtOnce : Prop :=
  ∀ (p : Straps) (m : Memory), m.read (wordOf (m.read 0xFFFC) (m.read 0xFFFD)) = 0xFF →
    step (State.resetOver p m) = .next { State.resetOver p m with
      running := false
      fault := some { byte := 0xFF, pc := wordOf (m.read 0xFFFC) (m.read 0xFFFD) } }

/-- The model's own placing of an instruction word: the next step fetches and runs exactly it (log entries 12, 13).
Rules: 40_sequencer_addressing.md R80, 40_sequencer_addressing.md R86, 30_encoding.md R62, 92_eei_decisions.md D24. -/
def Obligations.APlacedWordIsTheNextInstruction : Prop :=
  ∀ (s : State) (i : Instr) (w : Nat), (∀ k, k < i.length → (encode i)[k]? = some (tableByte (8 * i.length) w k)) →
    decodeTableWord (8 * i.length) w = some i ∧
    (s.withFetchWord (8 * i.length) w).fetchDecode = .ok i ∧
    ∀ t, exec i (s.withFetchWord (8 * i.length) w) = .next t →
      step (s.withFetchWord (8 * i.length) w) = .next (t.accountCycles i.opcode)

/-- Reset over any canonical memory image meets the invariant (decision D14, log entries 4, 9). Rules:
70_reset_and_hazards.md R230, 70_reset_and_hazards.md R235, 92_eei_decisions.md D14. -/
def Obligations.ResetMeetsTheInvariant : Prop :=
  (∀ (p : Straps) (m : Memory), m.wf → (State.resetOver p m).Inv) ∧ State.reset.Inv

/-- From every state that meets the invariant, a step and every action of the environment give a state that meets it
(decision D22, log entries 4, 5, 7). Rules: 60_exceptions.md R201, 60_exceptions.md R220, 40_sequencer_addressing.md
R83, 20_memory.md R42, 60_exceptions.md R206, 70_reset_and_hazards.md R233, 92_eei_decisions.md D22. -/
def Obligations.EveryStepKeepsTheInvariant : Prop :=
  (∀ s t : State, s.Inv → step s = .next t → t.Inv) ∧ (∀ (s : State) (e : EnvAction), s.Inv → (s.envAct e).Inv)

/-- Every state reachable under any schedule of the environment meets the invariant, and the step of a faulted one
answers it (decision D22, log entries 4, 5, 7, 8). Rules: 60_exceptions.md R206, 60_exceptions.md R220,
70_reset_and_hazards.md R235, 60_exceptions.md R201, 92_eei_decisions.md D22. -/
def Obligations.EveryReachableStateMeetsTheInvariant : Prop :=
  ∀ s : State, Reachable s → s.Inv ∧ (s.fault ≠ none → step s = .next s)
end

