-- ==== Sys2Proof/Laws/Bytes.lean ====
section
/-! SUPPORT. The byte-order helpers: a 16-bit value and its two bytes. -/

namespace Sys2Proof

theorem wordOf_toNat (lo hi : Byte) : (wordOf lo hi).toNat = 256 * hi.toNat + lo.toNat := by
  unfold wordOf
  rw [BitVec.toNat_append, ← Nat.shiftLeft_add_eq_or_of_lt lo.isLt, Nat.shiftLeft_eq]
  omega

theorem loByte_toNat (a : Addr) : (loByte a).toNat = a.toNat % 256 := by
  simp [loByte, BitVec.extractLsb'_toNat]

theorem hiByte_toNat (a : Addr) : (hiByte a).toNat = a.toNat / 256 := by
  have := a.isLt
  simp [hiByte, BitVec.extractLsb'_toNat, Nat.shiftRight_eq_div_pow]
  omega

@[simp] theorem loByte_wordOf (lo hi : Byte) : loByte (wordOf lo hi) = lo := by
  apply BitVec.eq_of_toNat_eq
  have := lo.isLt
  rw [loByte_toNat, wordOf_toNat]; omega

@[simp] theorem hiByte_wordOf (lo hi : Byte) : hiByte (wordOf lo hi) = hi := by
  apply BitVec.eq_of_toNat_eq
  have := lo.isLt
  rw [hiByte_toNat, wordOf_toNat]; omega

@[simp] theorem wordOf_bytes (a : Addr) : wordOf (loByte a) (hiByte a) = a := by
  apply BitVec.eq_of_toNat_eq
  rw [wordOf_toNat, loByte_toNat, hiByte_toNat]; omega

end Sys2Proof
end

