-- ==== Sys2Proof/Laws/State.lean ====
section
/-! SUPPORT. One lemma per field per update: what each register write, flag write, memory write and program-counter
update leaves in each field of the state. All hold by definition; with them no proof unfolds a record update. -/

namespace Sys2Proof.Machine.State

@[simp] theorem setA_a (s : State) (v : Byte) : (s.setA v).a = v := rfl
@[simp] theorem setA_x (s : State) (v : Byte) : (s.setA v).x = s.x := rfl
@[simp] theorem setA_y (s : State) (v : Byte) : (s.setA v).y = s.y := rfl
@[simp] theorem setA_sp (s : State) (v : Byte) : (s.setA v).sp = s.sp := rfl
@[simp] theorem setA_pc (s : State) (v : Byte) : (s.setA v).pc = s.pc := rfl
@[simp] theorem setA_flags (s : State) (v : Byte) : (s.setA v).flags = s.flags := rfl
@[simp] theorem setA_running (s : State) (v : Byte) : (s.setA v).running = s.running := rfl
@[simp] theorem setA_irqPending (s : State) (v : Byte) : (s.setA v).irqPending = s.irqPending := rfl
@[simp] theorem setA_nmiPending (s : State) (v : Byte) : (s.setA v).nmiPending = s.nmiPending := rfl
@[simp] theorem setA_stopReq (s : State) (v : Byte) : (s.setA v).stopReq = s.stopReq := rfl
@[simp] theorem setA_fault (s : State) (v : Byte) : (s.setA v).fault = s.fault := rfl
@[simp] theorem setA_mem (s : State) (v : Byte) : (s.setA v).mem = s.mem := rfl
@[simp] theorem setA_cyc (s : State) (v : Byte) : (s.setA v).cyc = s.cyc := rfl
@[simp] theorem setA_straps (s : State) (v : Byte) : (s.setA v).straps = s.straps := rfl

@[simp] theorem setX_a (s : State) (v : Byte) : (s.setX v).a = s.a := rfl
@[simp] theorem setX_x (s : State) (v : Byte) : (s.setX v).x = v := rfl
@[simp] theorem setX_y (s : State) (v : Byte) : (s.setX v).y = s.y := rfl
@[simp] theorem setX_sp (s : State) (v : Byte) : (s.setX v).sp = s.sp := rfl
@[simp] theorem setX_pc (s : State) (v : Byte) : (s.setX v).pc = s.pc := rfl
@[simp] theorem setX_flags (s : State) (v : Byte) : (s.setX v).flags = s.flags := rfl
@[simp] theorem setX_running (s : State) (v : Byte) : (s.setX v).running = s.running := rfl
@[simp] theorem setX_irqPending (s : State) (v : Byte) : (s.setX v).irqPending = s.irqPending := rfl
@[simp] theorem setX_nmiPending (s : State) (v : Byte) : (s.setX v).nmiPending = s.nmiPending := rfl
@[simp] theorem setX_stopReq (s : State) (v : Byte) : (s.setX v).stopReq = s.stopReq := rfl
@[simp] theorem setX_fault (s : State) (v : Byte) : (s.setX v).fault = s.fault := rfl
@[simp] theorem setX_mem (s : State) (v : Byte) : (s.setX v).mem = s.mem := rfl
@[simp] theorem setX_cyc (s : State) (v : Byte) : (s.setX v).cyc = s.cyc := rfl
@[simp] theorem setX_straps (s : State) (v : Byte) : (s.setX v).straps = s.straps := rfl

@[simp] theorem setY_a (s : State) (v : Byte) : (s.setY v).a = s.a := rfl
@[simp] theorem setY_x (s : State) (v : Byte) : (s.setY v).x = s.x := rfl
@[simp] theorem setY_y (s : State) (v : Byte) : (s.setY v).y = v := rfl
@[simp] theorem setY_sp (s : State) (v : Byte) : (s.setY v).sp = s.sp := rfl
@[simp] theorem setY_pc (s : State) (v : Byte) : (s.setY v).pc = s.pc := rfl
@[simp] theorem setY_flags (s : State) (v : Byte) : (s.setY v).flags = s.flags := rfl
@[simp] theorem setY_running (s : State) (v : Byte) : (s.setY v).running = s.running := rfl
@[simp] theorem setY_irqPending (s : State) (v : Byte) : (s.setY v).irqPending = s.irqPending := rfl
@[simp] theorem setY_nmiPending (s : State) (v : Byte) : (s.setY v).nmiPending = s.nmiPending := rfl
@[simp] theorem setY_stopReq (s : State) (v : Byte) : (s.setY v).stopReq = s.stopReq := rfl
@[simp] theorem setY_fault (s : State) (v : Byte) : (s.setY v).fault = s.fault := rfl
@[simp] theorem setY_mem (s : State) (v : Byte) : (s.setY v).mem = s.mem := rfl
@[simp] theorem setY_cyc (s : State) (v : Byte) : (s.setY v).cyc = s.cyc := rfl
@[simp] theorem setY_straps (s : State) (v : Byte) : (s.setY v).straps = s.straps := rfl

@[simp] theorem setSp_a (s : State) (v : Byte) : (s.setSp v).a = s.a := rfl
@[simp] theorem setSp_x (s : State) (v : Byte) : (s.setSp v).x = s.x := rfl
@[simp] theorem setSp_y (s : State) (v : Byte) : (s.setSp v).y = s.y := rfl
@[simp] theorem setSp_sp (s : State) (v : Byte) : (s.setSp v).sp = v := rfl
@[simp] theorem setSp_pc (s : State) (v : Byte) : (s.setSp v).pc = s.pc := rfl
@[simp] theorem setSp_flags (s : State) (v : Byte) : (s.setSp v).flags = s.flags := rfl
@[simp] theorem setSp_running (s : State) (v : Byte) : (s.setSp v).running = s.running := rfl
@[simp] theorem setSp_irqPending (s : State) (v : Byte) : (s.setSp v).irqPending = s.irqPending := rfl
@[simp] theorem setSp_nmiPending (s : State) (v : Byte) : (s.setSp v).nmiPending = s.nmiPending := rfl
@[simp] theorem setSp_stopReq (s : State) (v : Byte) : (s.setSp v).stopReq = s.stopReq := rfl
@[simp] theorem setSp_fault (s : State) (v : Byte) : (s.setSp v).fault = s.fault := rfl
@[simp] theorem setSp_mem (s : State) (v : Byte) : (s.setSp v).mem = s.mem := rfl
@[simp] theorem setSp_cyc (s : State) (v : Byte) : (s.setSp v).cyc = s.cyc := rfl
@[simp] theorem setSp_straps (s : State) (v : Byte) : (s.setSp v).straps = s.straps := rfl

@[simp] theorem setPc_a (s : State) (v : Addr) : (s.setPc v).a = s.a := rfl
@[simp] theorem setPc_x (s : State) (v : Addr) : (s.setPc v).x = s.x := rfl
@[simp] theorem setPc_y (s : State) (v : Addr) : (s.setPc v).y = s.y := rfl
@[simp] theorem setPc_sp (s : State) (v : Addr) : (s.setPc v).sp = s.sp := rfl
@[simp] theorem setPc_pc (s : State) (v : Addr) : (s.setPc v).pc = v := rfl
@[simp] theorem setPc_flags (s : State) (v : Addr) : (s.setPc v).flags = s.flags := rfl
@[simp] theorem setPc_running (s : State) (v : Addr) : (s.setPc v).running = s.running := rfl
@[simp] theorem setPc_irqPending (s : State) (v : Addr) : (s.setPc v).irqPending = s.irqPending := rfl
@[simp] theorem setPc_nmiPending (s : State) (v : Addr) : (s.setPc v).nmiPending = s.nmiPending := rfl
@[simp] theorem setPc_stopReq (s : State) (v : Addr) : (s.setPc v).stopReq = s.stopReq := rfl
@[simp] theorem setPc_fault (s : State) (v : Addr) : (s.setPc v).fault = s.fault := rfl
@[simp] theorem setPc_mem (s : State) (v : Addr) : (s.setPc v).mem = s.mem := rfl
@[simp] theorem setPc_cyc (s : State) (v : Addr) : (s.setPc v).cyc = s.cyc := rfl
@[simp] theorem setPc_straps (s : State) (v : Addr) : (s.setPc v).straps = s.straps := rfl

@[simp] theorem setFlags_a (s : State) (v : Flags) : (s.setFlags v).a = s.a := rfl
@[simp] theorem setFlags_x (s : State) (v : Flags) : (s.setFlags v).x = s.x := rfl
@[simp] theorem setFlags_y (s : State) (v : Flags) : (s.setFlags v).y = s.y := rfl
@[simp] theorem setFlags_sp (s : State) (v : Flags) : (s.setFlags v).sp = s.sp := rfl
@[simp] theorem setFlags_pc (s : State) (v : Flags) : (s.setFlags v).pc = s.pc := rfl
@[simp] theorem setFlags_flags (s : State) (v : Flags) : (s.setFlags v).flags = v := rfl
@[simp] theorem setFlags_running (s : State) (v : Flags) : (s.setFlags v).running = s.running := rfl
@[simp] theorem setFlags_irqPending (s : State) (v : Flags) : (s.setFlags v).irqPending = s.irqPending := rfl
@[simp] theorem setFlags_nmiPending (s : State) (v : Flags) : (s.setFlags v).nmiPending = s.nmiPending := rfl
@[simp] theorem setFlags_stopReq (s : State) (v : Flags) : (s.setFlags v).stopReq = s.stopReq := rfl
@[simp] theorem setFlags_fault (s : State) (v : Flags) : (s.setFlags v).fault = s.fault := rfl
@[simp] theorem setFlags_mem (s : State) (v : Flags) : (s.setFlags v).mem = s.mem := rfl
@[simp] theorem setFlags_cyc (s : State) (v : Flags) : (s.setFlags v).cyc = s.cyc := rfl
@[simp] theorem setFlags_straps (s : State) (v : Flags) : (s.setFlags v).straps = s.straps := rfl

@[simp] theorem setZN_a (s : State) (v : Byte) : (s.setZN v).a = s.a := rfl
@[simp] theorem setZN_x (s : State) (v : Byte) : (s.setZN v).x = s.x := rfl
@[simp] theorem setZN_y (s : State) (v : Byte) : (s.setZN v).y = s.y := rfl
@[simp] theorem setZN_sp (s : State) (v : Byte) : (s.setZN v).sp = s.sp := rfl
@[simp] theorem setZN_pc (s : State) (v : Byte) : (s.setZN v).pc = s.pc := rfl
@[simp] theorem setZN_flags (s : State) (v : Byte) : (s.setZN v).flags = s.flags.setZN v := rfl
@[simp] theorem setZN_running (s : State) (v : Byte) : (s.setZN v).running = s.running := rfl
@[simp] theorem setZN_irqPending (s : State) (v : Byte) : (s.setZN v).irqPending = s.irqPending := rfl
@[simp] theorem setZN_nmiPending (s : State) (v : Byte) : (s.setZN v).nmiPending = s.nmiPending := rfl
@[simp] theorem setZN_stopReq (s : State) (v : Byte) : (s.setZN v).stopReq = s.stopReq := rfl
@[simp] theorem setZN_fault (s : State) (v : Byte) : (s.setZN v).fault = s.fault := rfl
@[simp] theorem setZN_mem (s : State) (v : Byte) : (s.setZN v).mem = s.mem := rfl
@[simp] theorem setZN_cyc (s : State) (v : Byte) : (s.setZN v).cyc = s.cyc := rfl
@[simp] theorem setZN_straps (s : State) (v : Byte) : (s.setZN v).straps = s.straps := rfl

@[simp] theorem writeByte_a (s : State) (a : Addr) (v : Byte) : (s.writeByte a v).a = s.a := rfl
@[simp] theorem writeByte_x (s : State) (a : Addr) (v : Byte) : (s.writeByte a v).x = s.x := rfl
@[simp] theorem writeByte_y (s : State) (a : Addr) (v : Byte) : (s.writeByte a v).y = s.y := rfl
@[simp] theorem writeByte_sp (s : State) (a : Addr) (v : Byte) : (s.writeByte a v).sp = s.sp := rfl
@[simp] theorem writeByte_pc (s : State) (a : Addr) (v : Byte) : (s.writeByte a v).pc = s.pc := rfl
@[simp] theorem writeByte_flags (s : State) (a : Addr) (v : Byte) : (s.writeByte a v).flags = s.flags := rfl
@[simp] theorem writeByte_running (s : State) (a : Addr) (v : Byte) : (s.writeByte a v).running = s.running := rfl
@[simp] theorem writeByte_irqPending (s : State) (a : Addr) (v : Byte) : (s.writeByte a v).irqPending = s.irqPending := rfl
@[simp] theorem writeByte_nmiPending (s : State) (a : Addr) (v : Byte) : (s.writeByte a v).nmiPending = s.nmiPending := rfl
@[simp] theorem writeByte_stopReq (s : State) (a : Addr) (v : Byte) : (s.writeByte a v).stopReq = s.stopReq := rfl
@[simp] theorem writeByte_fault (s : State) (a : Addr) (v : Byte) : (s.writeByte a v).fault = s.fault := rfl
@[simp] theorem writeByte_mem (s : State) (a : Addr) (v : Byte) : (s.writeByte a v).mem = s.mem.write a v := rfl
@[simp] theorem writeByte_cyc (s : State) (a : Addr) (v : Byte) : (s.writeByte a v).cyc = s.cyc := rfl
@[simp] theorem writeByte_straps (s : State) (a : Addr) (v : Byte) : (s.writeByte a v).straps = s.straps := rfl

@[simp] theorem advance_a (s : State) (m : Mode) : (s.advance m).a = s.a := rfl
@[simp] theorem advance_x (s : State) (m : Mode) : (s.advance m).x = s.x := rfl
@[simp] theorem advance_y (s : State) (m : Mode) : (s.advance m).y = s.y := rfl
@[simp] theorem advance_sp (s : State) (m : Mode) : (s.advance m).sp = s.sp := rfl
@[simp] theorem advance_pc (s : State) (m : Mode) : (s.advance m).pc = s.pc + BitVec.ofNat 16 m.length := rfl
@[simp] theorem advance_flags (s : State) (m : Mode) : (s.advance m).flags = s.flags := rfl
@[simp] theorem advance_running (s : State) (m : Mode) : (s.advance m).running = s.running := rfl
@[simp] theorem advance_irqPending (s : State) (m : Mode) : (s.advance m).irqPending = s.irqPending := rfl
@[simp] theorem advance_nmiPending (s : State) (m : Mode) : (s.advance m).nmiPending = s.nmiPending := rfl
@[simp] theorem advance_stopReq (s : State) (m : Mode) : (s.advance m).stopReq = s.stopReq := rfl
@[simp] theorem advance_fault (s : State) (m : Mode) : (s.advance m).fault = s.fault := rfl
@[simp] theorem advance_mem (s : State) (m : Mode) : (s.advance m).mem = s.mem := rfl
@[simp] theorem advance_cyc (s : State) (m : Mode) : (s.advance m).cyc = s.cyc := rfl
@[simp] theorem advance_straps (s : State) (m : Mode) : (s.advance m).straps = s.straps := rfl

@[simp] theorem push_a (s : State) (v : Byte) : (s.push v).a = s.a := rfl
@[simp] theorem push_x (s : State) (v : Byte) : (s.push v).x = s.x := rfl
@[simp] theorem push_y (s : State) (v : Byte) : (s.push v).y = s.y := rfl
@[simp] theorem push_sp (s : State) (v : Byte) : (s.push v).sp = s.sp - 1 := rfl
@[simp] theorem push_pc (s : State) (v : Byte) : (s.push v).pc = s.pc := rfl
@[simp] theorem push_flags (s : State) (v : Byte) : (s.push v).flags = s.flags := rfl
@[simp] theorem push_running (s : State) (v : Byte) : (s.push v).running = s.running := rfl
@[simp] theorem push_irqPending (s : State) (v : Byte) : (s.push v).irqPending = s.irqPending := rfl
@[simp] theorem push_nmiPending (s : State) (v : Byte) : (s.push v).nmiPending = s.nmiPending := rfl
@[simp] theorem push_stopReq (s : State) (v : Byte) : (s.push v).stopReq = s.stopReq := rfl
@[simp] theorem push_fault (s : State) (v : Byte) : (s.push v).fault = s.fault := rfl
@[simp] theorem push_mem (s : State) (v : Byte) : (s.push v).mem = s.mem.write (stackAddr s.sp) v := rfl
@[simp] theorem push_cyc (s : State) (v : Byte) : (s.push v).cyc = s.cyc := rfl
@[simp] theorem push_straps (s : State) (v : Byte) : (s.push v).straps = s.straps := rfl

@[simp] theorem pulled_a (s : State) : (s.pulled).a = s.a := rfl
@[simp] theorem pulled_x (s : State) : (s.pulled).x = s.x := rfl
@[simp] theorem pulled_y (s : State) : (s.pulled).y = s.y := rfl
@[simp] theorem pulled_sp (s : State) : (s.pulled).sp = s.sp + 1 := rfl
@[simp] theorem pulled_pc (s : State) : (s.pulled).pc = s.pc := rfl
@[simp] theorem pulled_flags (s : State) : (s.pulled).flags = s.flags := rfl
@[simp] theorem pulled_running (s : State) : (s.pulled).running = s.running := rfl
@[simp] theorem pulled_irqPending (s : State) : (s.pulled).irqPending = s.irqPending := rfl
@[simp] theorem pulled_nmiPending (s : State) : (s.pulled).nmiPending = s.nmiPending := rfl
@[simp] theorem pulled_stopReq (s : State) : (s.pulled).stopReq = s.stopReq := rfl
@[simp] theorem pulled_fault (s : State) : (s.pulled).fault = s.fault := rfl
@[simp] theorem pulled_mem (s : State) : (s.pulled).mem = s.mem := rfl
@[simp] theorem pulled_cyc (s : State) : (s.pulled).cyc = s.cyc := rfl
@[simp] theorem pulled_straps (s : State) : (s.pulled).straps = s.straps := rfl

@[simp] theorem pushWord_a (s : State) (w : Addr) : (s.pushWord w).a = s.a := rfl
@[simp] theorem pushWord_x (s : State) (w : Addr) : (s.pushWord w).x = s.x := rfl
@[simp] theorem pushWord_y (s : State) (w : Addr) : (s.pushWord w).y = s.y := rfl
@[simp] theorem pushWord_sp (s : State) (w : Addr) : (s.pushWord w).sp = s.sp - 1 - 1 := rfl
@[simp] theorem pushWord_pc (s : State) (w : Addr) : (s.pushWord w).pc = s.pc := rfl
@[simp] theorem pushWord_flags (s : State) (w : Addr) : (s.pushWord w).flags = s.flags := rfl
@[simp] theorem pushWord_running (s : State) (w : Addr) : (s.pushWord w).running = s.running := rfl
@[simp] theorem pushWord_irqPending (s : State) (w : Addr) : (s.pushWord w).irqPending = s.irqPending := rfl
@[simp] theorem pushWord_nmiPending (s : State) (w : Addr) : (s.pushWord w).nmiPending = s.nmiPending := rfl
@[simp] theorem pushWord_stopReq (s : State) (w : Addr) : (s.pushWord w).stopReq = s.stopReq := rfl
@[simp] theorem pushWord_fault (s : State) (w : Addr) : (s.pushWord w).fault = s.fault := rfl
@[simp] theorem pushWord_cyc (s : State) (w : Addr) : (s.pushWord w).cyc = s.cyc := rfl
@[simp] theorem pushWord_straps (s : State) (w : Addr) : (s.pushWord w).straps = s.straps := rfl

@[simp] theorem pushFrame_a (s : State) (r : Addr) (b : Bool) : (s.pushFrame r b).a = s.a := rfl
@[simp] theorem pushFrame_x (s : State) (r : Addr) (b : Bool) : (s.pushFrame r b).x = s.x := rfl
@[simp] theorem pushFrame_y (s : State) (r : Addr) (b : Bool) : (s.pushFrame r b).y = s.y := rfl
@[simp] theorem pushFrame_sp (s : State) (r : Addr) (b : Bool) : (s.pushFrame r b).sp = s.sp - 1 - 1 - 1 := rfl
@[simp] theorem pushFrame_pc (s : State) (r : Addr) (b : Bool) : (s.pushFrame r b).pc = s.pc := rfl
@[simp] theorem pushFrame_flags (s : State) (r : Addr) (b : Bool) : (s.pushFrame r b).flags = s.flags := rfl
@[simp] theorem pushFrame_running (s : State) (r : Addr) (b : Bool) : (s.pushFrame r b).running = s.running := rfl
@[simp] theorem pushFrame_irqPending (s : State) (r : Addr) (b : Bool) : (s.pushFrame r b).irqPending = s.irqPending := rfl
@[simp] theorem pushFrame_nmiPending (s : State) (r : Addr) (b : Bool) : (s.pushFrame r b).nmiPending = s.nmiPending := rfl
@[simp] theorem pushFrame_stopReq (s : State) (r : Addr) (b : Bool) : (s.pushFrame r b).stopReq = s.stopReq := rfl
@[simp] theorem pushFrame_fault (s : State) (r : Addr) (b : Bool) : (s.pushFrame r b).fault = s.fault := rfl
@[simp] theorem pushFrame_cyc (s : State) (r : Addr) (b : Bool) : (s.pushFrame r b).cyc = s.cyc := rfl
@[simp] theorem pushFrame_straps (s : State) (r : Addr) (b : Bool) : (s.pushFrame r b).straps = s.straps := rfl

@[simp] theorem enterInterrupt_a (s : State) (r : Addr) (b : Bool) (v : Addr) : (s.enterInterrupt r b v).a = s.a := by
  simp [enterInterrupt]
@[simp] theorem enterInterrupt_x (s : State) (r : Addr) (b : Bool) (v : Addr) : (s.enterInterrupt r b v).x = s.x := by
  simp [enterInterrupt]
@[simp] theorem enterInterrupt_y (s : State) (r : Addr) (b : Bool) (v : Addr) : (s.enterInterrupt r b v).y = s.y := by
  simp [enterInterrupt]
@[simp] theorem enterInterrupt_sp (s : State) (r : Addr) (b : Bool) (v : Addr) : (s.enterInterrupt r b v).sp = s.sp - 1 - 1 - 1 := by
  simp [enterInterrupt]
@[simp] theorem enterInterrupt_flags (s : State) (r : Addr) (b : Bool) (v : Addr) : (s.enterInterrupt r b v).flags = { s.flags with i := true } := by
  simp [enterInterrupt]
@[simp] theorem enterInterrupt_running (s : State) (r : Addr) (b : Bool) (v : Addr) : (s.enterInterrupt r b v).running = s.running := by
  simp [enterInterrupt]
@[simp] theorem enterInterrupt_irqPending (s : State) (r : Addr) (b : Bool) (v : Addr) : (s.enterInterrupt r b v).irqPending = s.irqPending := by
  simp [enterInterrupt]
@[simp] theorem enterInterrupt_nmiPending (s : State) (r : Addr) (b : Bool) (v : Addr) : (s.enterInterrupt r b v).nmiPending = s.nmiPending := by
  simp [enterInterrupt]
@[simp] theorem enterInterrupt_stopReq (s : State) (r : Addr) (b : Bool) (v : Addr) : (s.enterInterrupt r b v).stopReq = s.stopReq := by
  simp [enterInterrupt]
@[simp] theorem enterInterrupt_fault (s : State) (r : Addr) (b : Bool) (v : Addr) : (s.enterInterrupt r b v).fault = s.fault := by
  simp [enterInterrupt]
@[simp] theorem enterInterrupt_cyc (s : State) (r : Addr) (b : Bool) (v : Addr) : (s.enterInterrupt r b v).cyc = s.cyc := by
  simp [enterInterrupt]
@[simp] theorem enterInterrupt_straps (s : State) (r : Addr) (b : Bool) (v : Addr) : (s.enterInterrupt r b v).straps = s.straps := by
  simp [enterInterrupt]

@[simp] theorem returnFromInterrupt_a (s : State) : s.returnFromInterrupt.a = s.a := by
  simp [returnFromInterrupt]
@[simp] theorem returnFromInterrupt_x (s : State) : s.returnFromInterrupt.x = s.x := by
  simp [returnFromInterrupt]
@[simp] theorem returnFromInterrupt_y (s : State) : s.returnFromInterrupt.y = s.y := by
  simp [returnFromInterrupt]
@[simp] theorem returnFromInterrupt_sp (s : State) : s.returnFromInterrupt.sp = s.sp + 1 + 1 + 1 := by
  simp [returnFromInterrupt]
@[simp] theorem returnFromInterrupt_flags (s : State) : s.returnFromInterrupt.flags = Flags.unpack s.pullByte := by
  simp [returnFromInterrupt]
@[simp] theorem returnFromInterrupt_running (s : State) : s.returnFromInterrupt.running = s.running := by
  simp [returnFromInterrupt]
@[simp] theorem returnFromInterrupt_irqPending (s : State) : s.returnFromInterrupt.irqPending = s.irqPending := by
  simp [returnFromInterrupt]
@[simp] theorem returnFromInterrupt_nmiPending (s : State) : s.returnFromInterrupt.nmiPending = s.nmiPending := by
  simp [returnFromInterrupt]
@[simp] theorem returnFromInterrupt_stopReq (s : State) : s.returnFromInterrupt.stopReq = s.stopReq := by
  simp [returnFromInterrupt]
@[simp] theorem returnFromInterrupt_fault (s : State) : s.returnFromInterrupt.fault = s.fault := by
  simp [returnFromInterrupt]
@[simp] theorem returnFromInterrupt_mem (s : State) : s.returnFromInterrupt.mem = s.mem := by
  simp [returnFromInterrupt]
@[simp] theorem returnFromInterrupt_cyc (s : State) : s.returnFromInterrupt.cyc = s.cyc := by
  simp [returnFromInterrupt]
@[simp] theorem returnFromInterrupt_straps (s : State) : s.returnFromInterrupt.straps = s.straps := by
  simp [returnFromInterrupt]

@[simp] theorem raiseUnknownOpcode_a (s : State) : (s.raiseUnknownOpcode).a = s.a := rfl
@[simp] theorem raiseUnknownOpcode_x (s : State) : (s.raiseUnknownOpcode).x = s.x := rfl
@[simp] theorem raiseUnknownOpcode_y (s : State) : (s.raiseUnknownOpcode).y = s.y := rfl
@[simp] theorem raiseUnknownOpcode_sp (s : State) : (s.raiseUnknownOpcode).sp = s.sp := rfl
@[simp] theorem raiseUnknownOpcode_pc (s : State) : (s.raiseUnknownOpcode).pc = s.pc := rfl
@[simp] theorem raiseUnknownOpcode_flags (s : State) : (s.raiseUnknownOpcode).flags = s.flags := rfl
@[simp] theorem raiseUnknownOpcode_running (s : State) : (s.raiseUnknownOpcode).running = false := rfl
@[simp] theorem raiseUnknownOpcode_irqPending (s : State) : (s.raiseUnknownOpcode).irqPending = s.irqPending := rfl
@[simp] theorem raiseUnknownOpcode_nmiPending (s : State) : (s.raiseUnknownOpcode).nmiPending = s.nmiPending := rfl
@[simp] theorem raiseUnknownOpcode_stopReq (s : State) : (s.raiseUnknownOpcode).stopReq = s.stopReq := rfl
@[simp] theorem raiseUnknownOpcode_fault (s : State) : (s.raiseUnknownOpcode).fault = some { byte := s.fetchOpcode, pc := s.pc } := rfl
@[simp] theorem raiseUnknownOpcode_mem (s : State) : (s.raiseUnknownOpcode).mem = s.mem := rfl
@[simp] theorem raiseUnknownOpcode_cyc (s : State) : (s.raiseUnknownOpcode).cyc = s.cyc := rfl
@[simp] theorem raiseUnknownOpcode_straps (s : State) : (s.raiseUnknownOpcode).straps = s.straps := rfl

@[simp] theorem accountCycles_a (s : State) (b : Byte) : (s.accountCycles b).a = s.a := rfl
@[simp] theorem accountCycles_x (s : State) (b : Byte) : (s.accountCycles b).x = s.x := rfl
@[simp] theorem accountCycles_y (s : State) (b : Byte) : (s.accountCycles b).y = s.y := rfl
@[simp] theorem accountCycles_sp (s : State) (b : Byte) : (s.accountCycles b).sp = s.sp := rfl
@[simp] theorem accountCycles_pc (s : State) (b : Byte) : (s.accountCycles b).pc = s.pc := rfl
@[simp] theorem accountCycles_flags (s : State) (b : Byte) : (s.accountCycles b).flags = s.flags := rfl
@[simp] theorem accountCycles_running (s : State) (b : Byte) : (s.accountCycles b).running = s.running := rfl
@[simp] theorem accountCycles_irqPending (s : State) (b : Byte) : (s.accountCycles b).irqPending = s.irqPending := rfl
@[simp] theorem accountCycles_nmiPending (s : State) (b : Byte) : (s.accountCycles b).nmiPending = s.nmiPending := rfl
@[simp] theorem accountCycles_stopReq (s : State) (b : Byte) : (s.accountCycles b).stopReq = s.stopReq := rfl
@[simp] theorem accountCycles_fault (s : State) (b : Byte) : (s.accountCycles b).fault = s.fault := rfl
@[simp] theorem accountCycles_mem (s : State) (b : Byte) : (s.accountCycles b).mem = s.mem := rfl
@[simp] theorem accountCycles_cyc (s : State) (b : Byte) : (s.accountCycles b).cyc = s.cyc + s.straps.baseCycles b := rfl
@[simp] theorem accountCycles_straps (s : State) (b : Byte) : (s.accountCycles b).straps = s.straps := rfl

@[simp] theorem stop_a (s : State) : (s.stop).a = s.a := rfl
@[simp] theorem stop_x (s : State) : (s.stop).x = s.x := rfl
@[simp] theorem stop_y (s : State) : (s.stop).y = s.y := rfl
@[simp] theorem stop_sp (s : State) : (s.stop).sp = s.sp := rfl
@[simp] theorem stop_pc (s : State) : (s.stop).pc = s.pc := rfl
@[simp] theorem stop_flags (s : State) : (s.stop).flags = s.flags := rfl
@[simp] theorem stop_running (s : State) : (s.stop).running = false := rfl
@[simp] theorem stop_irqPending (s : State) : (s.stop).irqPending = s.irqPending := rfl
@[simp] theorem stop_nmiPending (s : State) : (s.stop).nmiPending = s.nmiPending := rfl
@[simp] theorem stop_stopReq (s : State) : (s.stop).stopReq = s.stopReq := rfl
@[simp] theorem stop_fault (s : State) : (s.stop).fault = s.fault := rfl
@[simp] theorem stop_mem (s : State) : (s.stop).mem = s.mem := rfl
@[simp] theorem stop_cyc (s : State) : (s.stop).cyc = s.cyc := rfl
@[simp] theorem stop_straps (s : State) : (s.stop).straps = s.straps := rfl

@[simp] theorem haltIf_a (s : State) (h : Bool) : (s.haltIf h).a = s.a := rfl
@[simp] theorem haltIf_x (s : State) (h : Bool) : (s.haltIf h).x = s.x := rfl
@[simp] theorem haltIf_y (s : State) (h : Bool) : (s.haltIf h).y = s.y := rfl
@[simp] theorem haltIf_sp (s : State) (h : Bool) : (s.haltIf h).sp = s.sp := rfl
@[simp] theorem haltIf_pc (s : State) (h : Bool) : (s.haltIf h).pc = s.pc := rfl
@[simp] theorem haltIf_flags (s : State) (h : Bool) : (s.haltIf h).flags = s.flags := rfl
@[simp] theorem haltIf_running (s : State) (h : Bool) : (s.haltIf h).running = (s.running && !h) := rfl
@[simp] theorem haltIf_irqPending (s : State) (h : Bool) : (s.haltIf h).irqPending = s.irqPending := rfl
@[simp] theorem haltIf_nmiPending (s : State) (h : Bool) : (s.haltIf h).nmiPending = s.nmiPending := rfl
@[simp] theorem haltIf_stopReq (s : State) (h : Bool) : (s.haltIf h).stopReq = s.stopReq := rfl
@[simp] theorem haltIf_fault (s : State) (h : Bool) : (s.haltIf h).fault = s.fault := rfl
@[simp] theorem haltIf_mem (s : State) (h : Bool) : (s.haltIf h).mem = s.mem := rfl
@[simp] theorem haltIf_cyc (s : State) (h : Bool) : (s.haltIf h).cyc = s.cyc := rfl
@[simp] theorem haltIf_straps (s : State) (h : Bool) : (s.haltIf h).straps = s.straps := rfl

@[simp] theorem setAlu_a (s : State) (r : AluResult) : (s.setAlu r).a = r.value := rfl
@[simp] theorem setAlu_x (s : State) (r : AluResult) : (s.setAlu r).x = s.x := rfl
@[simp] theorem setAlu_y (s : State) (r : AluResult) : (s.setAlu r).y = s.y := rfl
@[simp] theorem setAlu_sp (s : State) (r : AluResult) : (s.setAlu r).sp = s.sp := rfl
@[simp] theorem setAlu_pc (s : State) (r : AluResult) : (s.setAlu r).pc = s.pc := rfl
@[simp] theorem setAlu_flags (s : State) (r : AluResult) : (s.setAlu r).flags = s.flags.setAlu r := rfl
@[simp] theorem setAlu_running (s : State) (r : AluResult) : (s.setAlu r).running = s.running := rfl
@[simp] theorem setAlu_irqPending (s : State) (r : AluResult) : (s.setAlu r).irqPending = s.irqPending := rfl
@[simp] theorem setAlu_nmiPending (s : State) (r : AluResult) : (s.setAlu r).nmiPending = s.nmiPending := rfl
@[simp] theorem setAlu_stopReq (s : State) (r : AluResult) : (s.setAlu r).stopReq = s.stopReq := rfl
@[simp] theorem setAlu_fault (s : State) (r : AluResult) : (s.setAlu r).fault = s.fault := rfl
@[simp] theorem setAlu_mem (s : State) (r : AluResult) : (s.setAlu r).mem = s.mem := rfl
@[simp] theorem setAlu_cyc (s : State) (r : AluResult) : (s.setAlu r).cyc = s.cyc := rfl
@[simp] theorem setAlu_straps (s : State) (r : AluResult) : (s.setAlu r).straps = s.straps := rfl

@[simp] theorem putShiftA_a (s : State) (r : Byte × Bool) : (s.putShiftA r).a = r.1 := rfl
@[simp] theorem putShiftA_x (s : State) (r : Byte × Bool) : (s.putShiftA r).x = s.x := rfl
@[simp] theorem putShiftA_y (s : State) (r : Byte × Bool) : (s.putShiftA r).y = s.y := rfl
@[simp] theorem putShiftA_sp (s : State) (r : Byte × Bool) : (s.putShiftA r).sp = s.sp := rfl
@[simp] theorem putShiftA_pc (s : State) (r : Byte × Bool) : (s.putShiftA r).pc = s.pc := rfl
@[simp] theorem putShiftA_flags (s : State) (r : Byte × Bool) : (s.putShiftA r).flags = s.flags.setShift r := rfl
@[simp] theorem putShiftA_running (s : State) (r : Byte × Bool) : (s.putShiftA r).running = s.running := rfl
@[simp] theorem putShiftA_irqPending (s : State) (r : Byte × Bool) : (s.putShiftA r).irqPending = s.irqPending := rfl
@[simp] theorem putShiftA_nmiPending (s : State) (r : Byte × Bool) : (s.putShiftA r).nmiPending = s.nmiPending := rfl
@[simp] theorem putShiftA_stopReq (s : State) (r : Byte × Bool) : (s.putShiftA r).stopReq = s.stopReq := rfl
@[simp] theorem putShiftA_fault (s : State) (r : Byte × Bool) : (s.putShiftA r).fault = s.fault := rfl
@[simp] theorem putShiftA_mem (s : State) (r : Byte × Bool) : (s.putShiftA r).mem = s.mem := rfl
@[simp] theorem putShiftA_cyc (s : State) (r : Byte × Bool) : (s.putShiftA r).cyc = s.cyc := rfl
@[simp] theorem putShiftA_straps (s : State) (r : Byte × Bool) : (s.putShiftA r).straps = s.straps := rfl

@[simp] theorem putShiftMem_a (s : State) (ea : Addr) (r : Byte × Bool) : (s.putShiftMem ea r).a = s.a := rfl
@[simp] theorem putShiftMem_x (s : State) (ea : Addr) (r : Byte × Bool) : (s.putShiftMem ea r).x = s.x := rfl
@[simp] theorem putShiftMem_y (s : State) (ea : Addr) (r : Byte × Bool) : (s.putShiftMem ea r).y = s.y := rfl
@[simp] theorem putShiftMem_sp (s : State) (ea : Addr) (r : Byte × Bool) : (s.putShiftMem ea r).sp = s.sp := rfl
@[simp] theorem putShiftMem_pc (s : State) (ea : Addr) (r : Byte × Bool) : (s.putShiftMem ea r).pc = s.pc := rfl
@[simp] theorem putShiftMem_flags (s : State) (ea : Addr) (r : Byte × Bool) : (s.putShiftMem ea r).flags = s.flags.setShift r := rfl
@[simp] theorem putShiftMem_running (s : State) (ea : Addr) (r : Byte × Bool) : (s.putShiftMem ea r).running = s.running := rfl
@[simp] theorem putShiftMem_irqPending (s : State) (ea : Addr) (r : Byte × Bool) : (s.putShiftMem ea r).irqPending = s.irqPending := rfl
@[simp] theorem putShiftMem_nmiPending (s : State) (ea : Addr) (r : Byte × Bool) : (s.putShiftMem ea r).nmiPending = s.nmiPending := rfl
@[simp] theorem putShiftMem_stopReq (s : State) (ea : Addr) (r : Byte × Bool) : (s.putShiftMem ea r).stopReq = s.stopReq := rfl
@[simp] theorem putShiftMem_fault (s : State) (ea : Addr) (r : Byte × Bool) : (s.putShiftMem ea r).fault = s.fault := rfl
@[simp] theorem putShiftMem_mem (s : State) (ea : Addr) (r : Byte × Bool) : (s.putShiftMem ea r).mem = s.mem.write ea r.1 := rfl
@[simp] theorem putShiftMem_cyc (s : State) (ea : Addr) (r : Byte × Bool) : (s.putShiftMem ea r).cyc = s.cyc := rfl
@[simp] theorem putShiftMem_straps (s : State) (ea : Addr) (r : Byte × Bool) : (s.putShiftMem ea r).straps = s.straps := rfl

@[simp] theorem putCount_a (s : State) (ea : Addr) (v : Byte) : (s.putCount ea v).a = s.a := rfl
@[simp] theorem putCount_x (s : State) (ea : Addr) (v : Byte) : (s.putCount ea v).x = s.x := rfl
@[simp] theorem putCount_y (s : State) (ea : Addr) (v : Byte) : (s.putCount ea v).y = s.y := rfl
@[simp] theorem putCount_sp (s : State) (ea : Addr) (v : Byte) : (s.putCount ea v).sp = s.sp := rfl
@[simp] theorem putCount_pc (s : State) (ea : Addr) (v : Byte) : (s.putCount ea v).pc = s.pc := rfl
@[simp] theorem putCount_flags (s : State) (ea : Addr) (v : Byte) : (s.putCount ea v).flags = s.flags.setZN v := rfl
@[simp] theorem putCount_running (s : State) (ea : Addr) (v : Byte) : (s.putCount ea v).running = s.running := rfl
@[simp] theorem putCount_irqPending (s : State) (ea : Addr) (v : Byte) : (s.putCount ea v).irqPending = s.irqPending := rfl
@[simp] theorem putCount_nmiPending (s : State) (ea : Addr) (v : Byte) : (s.putCount ea v).nmiPending = s.nmiPending := rfl
@[simp] theorem putCount_stopReq (s : State) (ea : Addr) (v : Byte) : (s.putCount ea v).stopReq = s.stopReq := rfl
@[simp] theorem putCount_fault (s : State) (ea : Addr) (v : Byte) : (s.putCount ea v).fault = s.fault := rfl
@[simp] theorem putCount_mem (s : State) (ea : Addr) (v : Byte) : (s.putCount ea v).mem = s.mem.write ea v := rfl
@[simp] theorem putCount_cyc (s : State) (ea : Addr) (v : Byte) : (s.putCount ea v).cyc = s.cyc := rfl
@[simp] theorem putCount_straps (s : State) (ea : Addr) (v : Byte) : (s.putCount ea v).straps = s.straps := rfl

/-- A byte of memory is read from the memory alone. -/
theorem readByte_of_mem {s t : State} (h : t.mem = s.mem) (a : Addr) : t.readByte a = s.readByte a := by
  unfold readByte; rw [h]

/-- A 16-bit read is two byte reads. -/
theorem read16_def (s : State) (l h : Addr) : s.read16 l h = wordOf (s.readByte l) (s.readByte h) := rfl

@[simp] theorem setA_readByte (s : State) (v : Byte) (k : Addr) : (s.setA v).readByte k = s.readByte k := rfl
@[simp] theorem setX_readByte (s : State) (v : Byte) (k : Addr) : (s.setX v).readByte k = s.readByte k := rfl
@[simp] theorem setY_readByte (s : State) (v : Byte) (k : Addr) : (s.setY v).readByte k = s.readByte k := rfl
@[simp] theorem setSp_readByte (s : State) (v : Byte) (k : Addr) : (s.setSp v).readByte k = s.readByte k := rfl
@[simp] theorem setPc_readByte (s : State) (v : Addr) (k : Addr) : (s.setPc v).readByte k = s.readByte k := rfl
@[simp] theorem setFlags_readByte (s : State) (v : Flags) (k : Addr) : (s.setFlags v).readByte k = s.readByte k := rfl
@[simp] theorem setZN_readByte (s : State) (v : Byte) (k : Addr) : (s.setZN v).readByte k = s.readByte k := rfl
@[simp] theorem advance_readByte (s : State) (m : Mode) (k : Addr) : (s.advance m).readByte k = s.readByte k := rfl
@[simp] theorem pulled_readByte (s : State) (k : Addr) : s.pulled.readByte k = s.readByte k := rfl
@[simp] theorem haltIf_readByte (s : State) (h : Bool) (k : Addr) : (s.haltIf h).readByte k = s.readByte k := rfl
@[simp] theorem accountCycles_readByte (s : State) (b : Byte) (k : Addr) : (s.accountCycles b).readByte k = s.readByte k := rfl
@[simp] theorem returnFromInterrupt_readByte (s : State) (k : Addr) : s.returnFromInterrupt.readByte k = s.readByte k := rfl

end Sys2Proof.Machine.State

namespace Sys2Proof.Machine.Flags

@[simp] theorem setZN_c (f : Flags) (w : Byte) : (f.setZN w).c = f.c := rfl
@[simp] theorem setZN_z (f : Flags) (w : Byte) : (f.setZN w).z = zeroOf w := rfl
@[simp] theorem setZN_i (f : Flags) (w : Byte) : (f.setZN w).i = f.i := rfl
@[simp] theorem setZN_d (f : Flags) (w : Byte) : (f.setZN w).d = f.d := rfl
@[simp] theorem setZN_b (f : Flags) (w : Byte) : (f.setZN w).b = f.b := rfl
@[simp] theorem setZN_v (f : Flags) (w : Byte) : (f.setZN w).v = f.v := rfl
@[simp] theorem setZN_n (f : Flags) (w : Byte) : (f.setZN w).n = negOf w := rfl

@[simp] theorem setAlu_c (f : Flags) (r : AluResult) : (f.setAlu r).c = r.c := rfl
@[simp] theorem setAlu_z (f : Flags) (r : AluResult) : (f.setAlu r).z = r.z := rfl
@[simp] theorem setAlu_i (f : Flags) (r : AluResult) : (f.setAlu r).i = f.i := rfl
@[simp] theorem setAlu_d (f : Flags) (r : AluResult) : (f.setAlu r).d = f.d := rfl
@[simp] theorem setAlu_b (f : Flags) (r : AluResult) : (f.setAlu r).b = f.b := rfl
@[simp] theorem setAlu_v (f : Flags) (r : AluResult) : (f.setAlu r).v = r.v := rfl
@[simp] theorem setAlu_n (f : Flags) (r : AluResult) : (f.setAlu r).n = r.n := rfl

@[simp] theorem compare_c (f : Flags) (r m : Byte) : (f.compare r m).c = decide (m.toNat ≤ r.toNat) := rfl
@[simp] theorem compare_z (f : Flags) (r m : Byte) : (f.compare r m).z = (r == m) := rfl
@[simp] theorem compare_i (f : Flags) (r m : Byte) : (f.compare r m).i = f.i := rfl
@[simp] theorem compare_d (f : Flags) (r m : Byte) : (f.compare r m).d = f.d := rfl
@[simp] theorem compare_b (f : Flags) (r m : Byte) : (f.compare r m).b = f.b := rfl
@[simp] theorem compare_v (f : Flags) (r m : Byte) : (f.compare r m).v = f.v := rfl
@[simp] theorem compare_n (f : Flags) (r m : Byte) : (f.compare r m).n = negOf (r - m) := rfl

@[simp] theorem bitTest_c (f : Flags) (a m : Byte) : (f.bitTest a m).c = f.c := rfl
@[simp] theorem bitTest_z (f : Flags) (a m : Byte) : (f.bitTest a m).z = zeroOf (a &&& m) := rfl
@[simp] theorem bitTest_i (f : Flags) (a m : Byte) : (f.bitTest a m).i = f.i := rfl
@[simp] theorem bitTest_d (f : Flags) (a m : Byte) : (f.bitTest a m).d = f.d := rfl
@[simp] theorem bitTest_b (f : Flags) (a m : Byte) : (f.bitTest a m).b = f.b := rfl
@[simp] theorem bitTest_v (f : Flags) (a m : Byte) : (f.bitTest a m).v = m.getLsbD 6 := rfl
@[simp] theorem bitTest_n (f : Flags) (a m : Byte) : (f.bitTest a m).n = m.getLsbD 7 := rfl

@[simp] theorem setShift_c (f : Flags) (r : Byte × Bool) : (f.setShift r).c = r.2 := rfl
@[simp] theorem setShift_z (f : Flags) (r : Byte × Bool) : (f.setShift r).z = zeroOf r.1 := rfl
@[simp] theorem setShift_i (f : Flags) (r : Byte × Bool) : (f.setShift r).i = f.i := rfl
@[simp] theorem setShift_d (f : Flags) (r : Byte × Bool) : (f.setShift r).d = f.d := rfl
@[simp] theorem setShift_b (f : Flags) (r : Byte × Bool) : (f.setShift r).b = f.b := rfl
@[simp] theorem setShift_v (f : Flags) (r : Byte × Bool) : (f.setShift r).v = f.v := rfl
@[simp] theorem setShift_n (f : Flags) (r : Byte × Bool) : (f.setShift r).n = negOf r.1 := rfl

end Sys2Proof.Machine.Flags
end

