-- ==== Sys2Proof/Laws/Memory.lean ====
section
/-! SUPPORT. The laws of memory: a read after a write, and that every memory operation keeps the canonical form. -/

namespace Sys2Proof.Machine.Memory

theorem readCell_cons (c : Host.Cell) (m : Memory) (k : Nat) :
    readCell (c :: m) k = if c.1 = k then c.2 else readCell m k := rfl

/-- A dropped cell reads as unlisted. -/
theorem readCell_dropCell_same (m : Memory) (k : Nat) : readCell (dropCell k m) k = unlisted := by
  induction m with
  | nil => rfl
  | cons c m ih =>
    by_cases h : c.1 = k
    · simpa [dropCell, h] using ih
    · rw [dropCell, List.filter_cons_of_pos (by simpa using h), readCell_cons, if_neg h]
      exact ih

/-- Dropping a cell leaves every other one. -/
theorem readCell_dropCell_other (m : Memory) {k j : Nat} (hj : j ≠ k) :
    readCell (dropCell k m) j = readCell m j := by
  induction m with
  | nil => rfl
  | cons c m ih =>
    by_cases h : c.1 = k
    · rw [dropCell, List.filter_cons_of_neg (by simpa using h), readCell_cons, if_neg (by omega)]
      exact ih
    · rw [dropCell, List.filter_cons_of_pos (by simpa using h), readCell_cons, readCell_cons]
      split <;> [rfl; exact ih]

/-- An inserted cell is found, where no cell of its number stood before. -/
theorem readCell_insertCell_same (m : Memory) (c : Host.Cell) (h : ∀ d ∈ m, d.1 ≠ c.1) :
    readCell (insertCell c m) c.1 = c.2 := by
  induction m with
  | nil => simp [insertCell, readCell]
  | cons d m ih =>
    have hd := h d (by simp)
    unfold insertCell
    split
    · simp [readCell]
    · rw [readCell_cons, if_neg hd]
      exact ih fun e he => h e (by simp [he])

/-- Inserting a cell leaves every other one. -/
theorem readCell_insertCell_other (m : Memory) (c : Host.Cell) {j : Nat} (hj : j ≠ c.1) :
    readCell (insertCell c m) j = readCell m j := by
  induction m with
  | nil => simp [insertCell, readCell, hj.symm]
  | cons d m ih =>
    unfold insertCell
    split
    · rw [readCell_cons, if_neg (Ne.symm hj)]
    · rw [readCell_cons, readCell_cons, ih]

theorem mem_dropCell {k : Nat} {m : Memory} {d : Host.Cell} : d ∈ dropCell k m ↔ d ∈ m ∧ d.1 ≠ k := by
  simp [dropCell]

theorem readCell_writeCell (m : Memory) (k j : Nat) (v : Byte) :
    readCell (writeCell m k v) j = if j = k then v else readCell m j := by
  unfold writeCell
  split
  · rename_i hv
    by_cases h : j = k
    · subst h; rw [readCell_dropCell_same, if_pos rfl, hv]
    · rw [readCell_dropCell_other m h, if_neg h]
  · by_cases h : j = k
    · subst h
      rw [if_pos rfl]
      exact readCell_insertCell_same _ (j, v) fun d hd => (mem_dropCell.mp hd).2
    · rw [readCell_insertCell_other _ (k, v) h, readCell_dropCell_other m h, if_neg h]

/-- A read after a write (20_memory.md R42, R49): the byte written at its address, the old byte elsewhere. -/
@[simp] theorem read_write (m : Memory) (a b : Addr) (v : Byte) :
    (m.write a v).read b = if b = a then v else m.read b := by
  unfold read write
  rw [readCell_writeCell]
  simp [BitVec.toNat_inj]

theorem read_write_same (m : Memory) (a : Addr) (v : Byte) : (m.write a v).read a = v := by simp

theorem read_write_other (m : Memory) {a b : Addr} (v : Byte) (h : b ≠ a) : (m.write a v).read b = m.read b := by
  simp [h]

theorem mem_insertCell {c d : Host.Cell} {m : Memory} : d ∈ insertCell c m ↔ d = c ∨ d ∈ m := by
  induction m with
  | nil => simp [insertCell]
  | cons e m ih =>
    unfold insertCell
    split
    · simp
    · simp only [List.mem_cons, ih]; tauto

theorem wf_nil : wf [] := ⟨.nil, by simp⟩

theorem wf_dropCell {m : Memory} (h : m.wf) (k : Nat) : wf (dropCell k m) :=
  ⟨h.1.filter _, fun c hc => h.2 c (mem_dropCell.mp hc).1⟩

/-- Inserting keeps the addresses rising, where no cell of the number stood before. -/
theorem pairwise_insertCell {m : Memory} (c : Host.Cell) (hm : m.Pairwise (fun c d => c.1 < d.1))
    (hc : ∀ d ∈ m, d.1 ≠ c.1) : (insertCell c m).Pairwise (fun c d => c.1 < d.1) := by
  induction m with
  | nil => simp [insertCell]
  | cons d m ih =>
    have hd := List.pairwise_cons.mp hm
    have hne := hc d (by simp)
    unfold insertCell
    split
    · rename_i hlt
      refine List.pairwise_cons.mpr ⟨fun e he => ?_, hm⟩
      rcases List.mem_cons.mp he with rfl | he
      · exact hlt
      · exact Nat.lt_trans hlt (hd.1 e he)
    · rename_i hge
      refine List.pairwise_cons.mpr ⟨fun e he => ?_, ih hd.2 fun e he => hc e (by simp [he])⟩
      rcases mem_insertCell.mp he with rfl | he
      · omega
      · exact hd.1 e he

/-- A write keeps the canonical form. -/
theorem wf_write {m : Memory} (h : m.wf) (a : Addr) (v : Byte) : (m.write a v).wf := by
  unfold write writeCell
  split
  · exact wf_dropCell h _
  · rename_i hv
    refine ⟨pairwise_insertCell _ (wf_dropCell h _).1 fun d hd => (mem_dropCell.mp hd).2, fun c hc => ?_⟩
    rcases mem_insertCell.mp hc with rfl | hc
    · exact ⟨a.isLt, hv⟩
    · exact (wf_dropCell h _).2 c hc

end Sys2Proof.Machine.Memory

namespace Sys2Proof.Machine.State

/-- `MemRead` after `MemWrite` (20_memory.md R41, R42). -/
@[simp] theorem writeByte_readByte (s : State) (a b : Addr) (v : Byte) :
    (s.writeByte a v).readByte b = if b = a then v else s.readByte b := Memory.read_write _ _ _ _

/-- What a push leaves at each address (R52). -/
@[simp] theorem push_readByte (s : State) (v : Byte) (b : Addr) :
    (s.push v).readByte b = if b = stackAddr s.sp then v else s.readByte b := Memory.read_write _ _ _ _

theorem writeByte_mem_wf {s : State} (h : s.mem.wf) (a : Addr) (v : Byte) : (s.writeByte a v).mem.wf :=
  Memory.wf_write h a v

theorem push_mem_wf {s : State} (h : s.mem.wf) (v : Byte) : (s.push v).mem.wf := Memory.wf_write h _ v

theorem pushWord_mem_wf {s : State} (h : s.mem.wf) (w : Addr) : (s.pushWord w).mem.wf := push_mem_wf (push_mem_wf h _) _

theorem enterInterrupt_mem_wf {s : State} (h : s.mem.wf) (r : Addr) (b : Bool) (v : Addr) :
    (s.enterInterrupt r b v).mem.wf := push_mem_wf (pushWord_mem_wf h r) _

theorem service_mem_wf {s : State} (h : s.mem.wf) (v : Addr) : (s.service v).mem.wf := enterInterrupt_mem_wf h _ _ _

theorem interruptCheck_mem_wf {s : State} (h : s.mem.wf) : s.interruptCheck.mem.wf := by
  unfold interruptCheck
  split
  · exact service_mem_wf (s := { s with nmiPending := false }) h _
  · split
    · exact service_mem_wf (s := { s with irqPending := false }) h _
    · exact h

theorem reset_mem_wf : State.reset.mem.wf := Memory.wf_nil

end Sys2Proof.Machine.State
end

