-- ==== Sys2Proof/Laws/Ops.lean ====
section
/-! SUPPORT. What each shared operation does, said once: the stack, interrupt entry and return, the re-read
operand bytes of JSR. -/

namespace Sys2Proof

namespace Machine

/-- `N` of `SetZN` in D0's words (40_sequencer_addressing.md R100): `v >= 0x80`. -/
theorem negOf_eq (v : Byte) : negOf v = decide (0x80 ≤ v.toNat) := by
  revert v; decide

/-- `Z` of `SetZN` in D0's words (R100). -/
theorem zeroOf_eq (v : Byte) : zeroOf v = decide (v.toNat = 0) := by
  revert v; decide

namespace State

/-- Two stack pointers designate one location only if they are equal. -/
@[simp] theorem stackAddr_inj (p q : Byte) : stackAddr p = stackAddr q ↔ p = q := by
  constructor
  · intro h
    simpa [stackAddr] using congrArg loByte h
  · rintro rfl; rfl

/-- A stack location is in page 1. -/
theorem hiByte_stackAddr (p : Byte) : hiByte (stackAddr p) = 1 := by simp [stackAddr]

theorem ne_stackAddr {a : Addr} (h : hiByte a ≠ 1) (p : Byte) : a ≠ stackAddr p := by
  rintro rfl; exact h (hiByte_stackAddr p)

/-- What a pushed word leaves at each address: the low byte below the high byte (20_memory.md R45). -/
theorem pushWord_readByte (s : State) (w b : Addr) :
    (s.pushWord w).readByte b =
      if b = stackAddr (s.sp - 1) then loByte w else if b = stackAddr s.sp then hiByte w else s.readByte b := by
  simp [pushWord]

/-- What an interrupt frame leaves at each address (60_exceptions.md R210). -/
theorem pushFrame_readByte (s : State) (r : Addr) (k : Bool) (b : Addr) :
    (s.pushFrame r k).readByte b =
      if b = stackAddr (s.sp - 1 - 1) then s.flags.pack k
      else if b = stackAddr (s.sp - 1) then loByte r
      else if b = stackAddr s.sp then hiByte r else s.readByte b := by
  simp [pushFrame, pushWord_readByte]

/-- A frame leaves every byte outside page 1. -/
theorem pushFrame_readByte_outside (s : State) (r : Addr) (k : Bool) {b : Addr} (h : hiByte b ≠ 1) :
    (s.pushFrame r k).readByte b = s.readByte b := by
  rw [pushFrame_readByte, if_neg (ne_stackAddr h _), if_neg (ne_stackAddr h _), if_neg (ne_stackAddr h _)]

@[simp] theorem enterInterrupt_readByte (s : State) (r : Addr) (k : Bool) (v b : Addr) :
    (s.enterInterrupt r k v).readByte b = (s.pushFrame r k).readByte b := rfl

/-- Where an interrupt entry goes: the vector's value, for a vector outside the stack page. -/
theorem enterInterrupt_pc (s : State) (r : Addr) (k : Bool) {v : Addr} (h : hiByte v ≠ 1) (h' : hiByte (v + 1) ≠ 1) :
    (s.enterInterrupt r k v).pc = s.read16 v (v + 1) := by
  rw [read16_def, ← pushFrame_readByte_outside s r k h, ← pushFrame_readByte_outside s r k h']
  rfl

/-- Where RTI goes (45_stack_flags_system.md R197). -/
theorem returnFromInterrupt_pc (s : State) : s.returnFromInterrupt.pc = s.pulled.pullWord := rfl

/-- The bytes RTS and RTI pull. -/
theorem pullWord_def (s : State) :
    s.pullWord = wordOf (s.readByte (stackAddr (s.sp + 1))) (s.readByte (stackAddr (s.sp + 1 + 1))) := rfl

/-- A re-read operand byte (44_control_flow.md R171): for an instruction that was fetched, the byte memory holds now. -/
theorem reread_eq {s : State} (t : State) {a : Addr} {old : Byte} (h : s.readByte a = old) :
    s.reread t a old = t.readByte a := by
  unfold reread
  split
  · rename_i he; rw [he, h]
  · rfl

/-- An operand byte the pushes did not touch is the one the instruction carries. -/
theorem reread_unchanged {s t : State} {a : Addr} (old : Byte) (h : t.readByte a = s.readByte a) :
    s.reread t a old = old := if_pos h

/-- The target of a fetched JSR is what its operand bytes are after the pushes (R171). -/
theorem jsrTarget_fetched {s : State} {addr : Addr} (h1 : s.readByte (s.pc + 1) = loByte addr)
    (h2 : s.readByte (s.pc + 2) = hiByte addr) :
    s.jsrTarget addr = (s.pushWord s.jsrReturn).read16 (s.pc + 1) (s.pc + 2) := by
  simp only [jsrTarget, reread_eq _ h1, reread_eq _ h2]
  rfl

/-- What a placed table word leaves at each address: its three bytes from `PC` on (log entry 13). -/
theorem storeTableWord_readByte (s : State) (n w : Nat) (b : Addr) :
    (s.storeTableWord n w).readByte b =
      if b = s.pc + 2 then tableByte n w 2
      else if b = s.pc + 1 then tableByte n w 1
      else if b = s.pc then tableByte n w 0 else s.readByte b := by
  simp [storeTableWord]

/-- What the interrupt check does (40_sequencer_addressing.md R82): it services the NMI, services the IRQ, or nothing. -/
theorem interruptCheck_cases (s : State) :
    (s.nmiPending = true ∧ s.interruptCheck = service { s with nmiPending := false } vecNmi) ∨
    (s.nmiPending = false ∧ s.irqPending = true ∧ s.flags.i = false ∧
      s.interruptCheck = service { s with irqPending := false } vecIrq) ∨
    (s.nmiPending = false ∧ (s.irqPending = true → s.flags.i = true) ∧ s.interruptCheck = s) := by
  unfold interruptCheck
  cases hn : s.nmiPending <;> cases hq : s.irqPending <;> cases hi : s.flags.i <;> simp

end State

end Machine

end Sys2Proof
end

