-- ==== Sys2Proof/Laws/PerInstr.lean ====
section
/-! SUPPORT. Statements about every instruction as syntax, made one constructor at a time. -/

namespace Sys2Proof.Laws.EncodeShape

/-- An instruction's encoding has the length of its format, may be one instruction by R60 and R68's own list, begins with
an opcode of the table, and the row of that opcode has the format and builds the instruction from the bytes after it. -/
def Statement (i : Instr) : Prop :=
  i.length = i.mode.length ∧ wordWf (encode i) = true ∧
    ∃ r, opcodeLookup i.opcode = some r ∧ r.mode = i.mode ∧ r.build ((encode i).getD 1 0) ((encode i).getD 2 0) = i

theorem ldaImm (imm : Byte) : Statement (.ldaImm imm) := ⟨rfl, rfl, _, rfl, rfl, rfl⟩
theorem ldaZp (zp : Byte) : Statement (.ldaZp zp) := ⟨rfl, rfl, _, rfl, rfl, rfl⟩
theorem ldaZpx (zp : Byte) : Statement (.ldaZpx zp) := ⟨rfl, rfl, _, rfl, rfl, rfl⟩
theorem ldaAbs (addr : Addr) : Statement (.ldaAbs addr) := ⟨rfl, rfl, _, rfl, rfl, congrArg Instr.ldaAbs (wordOf_bytes _)⟩
theorem ldaAbx (addr : Addr) : Statement (.ldaAbx addr) := ⟨rfl, rfl, _, rfl, rfl, congrArg Instr.ldaAbx (wordOf_bytes _)⟩
theorem ldaAby (addr : Addr) : Statement (.ldaAby addr) := ⟨rfl, rfl, _, rfl, rfl, congrArg Instr.ldaAby (wordOf_bytes _)⟩
theorem ldaIzx (zp : Byte) : Statement (.ldaIzx zp) := ⟨rfl, rfl, _, rfl, rfl, rfl⟩
theorem ldaIzy (zp : Byte) : Statement (.ldaIzy zp) := ⟨rfl, rfl, _, rfl, rfl, rfl⟩
theorem ldxImm (imm : Byte) : Statement (.ldxImm imm) := ⟨rfl, rfl, _, rfl, rfl, rfl⟩
theorem ldxZp (zp : Byte) : Statement (.ldxZp zp) := ⟨rfl, rfl, _, rfl, rfl, rfl⟩
theorem ldxZpy (zp : Byte) : Statement (.ldxZpy zp) := ⟨rfl, rfl, _, rfl, rfl, rfl⟩
theorem ldxAbs (addr : Addr) : Statement (.ldxAbs addr) := ⟨rfl, rfl, _, rfl, rfl, congrArg Instr.ldxAbs (wordOf_bytes _)⟩
theorem ldxAby (addr : Addr) : Statement (.ldxAby addr) := ⟨rfl, rfl, _, rfl, rfl, congrArg Instr.ldxAby (wordOf_bytes _)⟩
theorem ldyImm (imm : Byte) : Statement (.ldyImm imm) := ⟨rfl, rfl, _, rfl, rfl, rfl⟩
theorem ldyZp (zp : Byte) : Statement (.ldyZp zp) := ⟨rfl, rfl, _, rfl, rfl, rfl⟩
theorem ldyZpx (zp : Byte) : Statement (.ldyZpx zp) := ⟨rfl, rfl, _, rfl, rfl, rfl⟩
theorem ldyAbs (addr : Addr) : Statement (.ldyAbs addr) := ⟨rfl, rfl, _, rfl, rfl, congrArg Instr.ldyAbs (wordOf_bytes _)⟩
theorem ldyAbx (addr : Addr) : Statement (.ldyAbx addr) := ⟨rfl, rfl, _, rfl, rfl, congrArg Instr.ldyAbx (wordOf_bytes _)⟩
theorem staZp (zp : Byte) : Statement (.staZp zp) := ⟨rfl, rfl, _, rfl, rfl, rfl⟩
theorem staZpx (zp : Byte) : Statement (.staZpx zp) := ⟨rfl, rfl, _, rfl, rfl, rfl⟩
theorem staAbs (addr : Addr) : Statement (.staAbs addr) := ⟨rfl, rfl, _, rfl, rfl, congrArg Instr.staAbs (wordOf_bytes _)⟩
theorem staAbx (addr : Addr) : Statement (.staAbx addr) := ⟨rfl, rfl, _, rfl, rfl, congrArg Instr.staAbx (wordOf_bytes _)⟩
theorem staAby (addr : Addr) : Statement (.staAby addr) := ⟨rfl, rfl, _, rfl, rfl, congrArg Instr.staAby (wordOf_bytes _)⟩
theorem staIzx (zp : Byte) : Statement (.staIzx zp) := ⟨rfl, rfl, _, rfl, rfl, rfl⟩
theorem staIzy (zp : Byte) : Statement (.staIzy zp) := ⟨rfl, rfl, _, rfl, rfl, rfl⟩
theorem stxZp (zp : Byte) : Statement (.stxZp zp) := ⟨rfl, rfl, _, rfl, rfl, rfl⟩
theorem stxZpy (zp : Byte) : Statement (.stxZpy zp) := ⟨rfl, rfl, _, rfl, rfl, rfl⟩
theorem stxAbs (addr : Addr) : Statement (.stxAbs addr) := ⟨rfl, rfl, _, rfl, rfl, congrArg Instr.stxAbs (wordOf_bytes _)⟩
theorem styZp (zp : Byte) : Statement (.styZp zp) := ⟨rfl, rfl, _, rfl, rfl, rfl⟩
theorem styZpx (zp : Byte) : Statement (.styZpx zp) := ⟨rfl, rfl, _, rfl, rfl, rfl⟩
theorem styAbs (addr : Addr) : Statement (.styAbs addr) := ⟨rfl, rfl, _, rfl, rfl, congrArg Instr.styAbs (wordOf_bytes _)⟩
theorem tax : Statement (.tax) := ⟨rfl, rfl, _, rfl, rfl, rfl⟩
theorem tay : Statement (.tay) := ⟨rfl, rfl, _, rfl, rfl, rfl⟩
theorem tsx : Statement (.tsx) := ⟨rfl, rfl, _, rfl, rfl, rfl⟩
theorem txa : Statement (.txa) := ⟨rfl, rfl, _, rfl, rfl, rfl⟩
theorem txs : Statement (.txs) := ⟨rfl, rfl, _, rfl, rfl, rfl⟩
theorem tya : Statement (.tya) := ⟨rfl, rfl, _, rfl, rfl, rfl⟩
theorem adcImm (imm : Byte) : Statement (.adcImm imm) := ⟨rfl, rfl, _, rfl, rfl, rfl⟩
theorem adcZp (zp : Byte) : Statement (.adcZp zp) := ⟨rfl, rfl, _, rfl, rfl, rfl⟩
theorem adcZpx (zp : Byte) : Statement (.adcZpx zp) := ⟨rfl, rfl, _, rfl, rfl, rfl⟩
theorem adcAbs (addr : Addr) : Statement (.adcAbs addr) := ⟨rfl, rfl, _, rfl, rfl, congrArg Instr.adcAbs (wordOf_bytes _)⟩
theorem adcAbx (addr : Addr) : Statement (.adcAbx addr) := ⟨rfl, rfl, _, rfl, rfl, congrArg Instr.adcAbx (wordOf_bytes _)⟩
theorem adcAby (addr : Addr) : Statement (.adcAby addr) := ⟨rfl, rfl, _, rfl, rfl, congrArg Instr.adcAby (wordOf_bytes _)⟩
theorem adcIzx (zp : Byte) : Statement (.adcIzx zp) := ⟨rfl, rfl, _, rfl, rfl, rfl⟩
theorem adcIzy (zp : Byte) : Statement (.adcIzy zp) := ⟨rfl, rfl, _, rfl, rfl, rfl⟩
theorem sbcImm (imm : Byte) : Statement (.sbcImm imm) := ⟨rfl, rfl, _, rfl, rfl, rfl⟩
theorem sbcZp (zp : Byte) : Statement (.sbcZp zp) := ⟨rfl, rfl, _, rfl, rfl, rfl⟩
theorem sbcZpx (zp : Byte) : Statement (.sbcZpx zp) := ⟨rfl, rfl, _, rfl, rfl, rfl⟩
theorem sbcAbs (addr : Addr) : Statement (.sbcAbs addr) := ⟨rfl, rfl, _, rfl, rfl, congrArg Instr.sbcAbs (wordOf_bytes _)⟩
theorem sbcAbx (addr : Addr) : Statement (.sbcAbx addr) := ⟨rfl, rfl, _, rfl, rfl, congrArg Instr.sbcAbx (wordOf_bytes _)⟩
theorem sbcAby (addr : Addr) : Statement (.sbcAby addr) := ⟨rfl, rfl, _, rfl, rfl, congrArg Instr.sbcAby (wordOf_bytes _)⟩
theorem sbcIzx (zp : Byte) : Statement (.sbcIzx zp) := ⟨rfl, rfl, _, rfl, rfl, rfl⟩
theorem sbcIzy (zp : Byte) : Statement (.sbcIzy zp) := ⟨rfl, rfl, _, rfl, rfl, rfl⟩
theorem cmpImm (imm : Byte) : Statement (.cmpImm imm) := ⟨rfl, rfl, _, rfl, rfl, rfl⟩
theorem cmpZp (zp : Byte) : Statement (.cmpZp zp) := ⟨rfl, rfl, _, rfl, rfl, rfl⟩
theorem cmpZpx (zp : Byte) : Statement (.cmpZpx zp) := ⟨rfl, rfl, _, rfl, rfl, rfl⟩
theorem cmpAbs (addr : Addr) : Statement (.cmpAbs addr) := ⟨rfl, rfl, _, rfl, rfl, congrArg Instr.cmpAbs (wordOf_bytes _)⟩
theorem cmpAbx (addr : Addr) : Statement (.cmpAbx addr) := ⟨rfl, rfl, _, rfl, rfl, congrArg Instr.cmpAbx (wordOf_bytes _)⟩
theorem cmpAby (addr : Addr) : Statement (.cmpAby addr) := ⟨rfl, rfl, _, rfl, rfl, congrArg Instr.cmpAby (wordOf_bytes _)⟩
theorem cmpIzx (zp : Byte) : Statement (.cmpIzx zp) := ⟨rfl, rfl, _, rfl, rfl, rfl⟩
theorem cmpIzy (zp : Byte) : Statement (.cmpIzy zp) := ⟨rfl, rfl, _, rfl, rfl, rfl⟩
theorem cpxImm (imm : Byte) : Statement (.cpxImm imm) := ⟨rfl, rfl, _, rfl, rfl, rfl⟩
theorem cpxZp (zp : Byte) : Statement (.cpxZp zp) := ⟨rfl, rfl, _, rfl, rfl, rfl⟩
theorem cpxAbs (addr : Addr) : Statement (.cpxAbs addr) := ⟨rfl, rfl, _, rfl, rfl, congrArg Instr.cpxAbs (wordOf_bytes _)⟩
theorem cpyImm (imm : Byte) : Statement (.cpyImm imm) := ⟨rfl, rfl, _, rfl, rfl, rfl⟩
theorem cpyZp (zp : Byte) : Statement (.cpyZp zp) := ⟨rfl, rfl, _, rfl, rfl, rfl⟩
theorem cpyAbs (addr : Addr) : Statement (.cpyAbs addr) := ⟨rfl, rfl, _, rfl, rfl, congrArg Instr.cpyAbs (wordOf_bytes _)⟩
theorem andImm (imm : Byte) : Statement (.andImm imm) := ⟨rfl, rfl, _, rfl, rfl, rfl⟩
theorem andZp (zp : Byte) : Statement (.andZp zp) := ⟨rfl, rfl, _, rfl, rfl, rfl⟩
theorem andZpx (zp : Byte) : Statement (.andZpx zp) := ⟨rfl, rfl, _, rfl, rfl, rfl⟩
theorem andAbs (addr : Addr) : Statement (.andAbs addr) := ⟨rfl, rfl, _, rfl, rfl, congrArg Instr.andAbs (wordOf_bytes _)⟩
theorem andAbx (addr : Addr) : Statement (.andAbx addr) := ⟨rfl, rfl, _, rfl, rfl, congrArg Instr.andAbx (wordOf_bytes _)⟩
theorem andAby (addr : Addr) : Statement (.andAby addr) := ⟨rfl, rfl, _, rfl, rfl, congrArg Instr.andAby (wordOf_bytes _)⟩
theorem andIzx (zp : Byte) : Statement (.andIzx zp) := ⟨rfl, rfl, _, rfl, rfl, rfl⟩
theorem andIzy (zp : Byte) : Statement (.andIzy zp) := ⟨rfl, rfl, _, rfl, rfl, rfl⟩
theorem oraImm (imm : Byte) : Statement (.oraImm imm) := ⟨rfl, rfl, _, rfl, rfl, rfl⟩
theorem oraZp (zp : Byte) : Statement (.oraZp zp) := ⟨rfl, rfl, _, rfl, rfl, rfl⟩
theorem oraZpx (zp : Byte) : Statement (.oraZpx zp) := ⟨rfl, rfl, _, rfl, rfl, rfl⟩
theorem oraAbs (addr : Addr) : Statement (.oraAbs addr) := ⟨rfl, rfl, _, rfl, rfl, congrArg Instr.oraAbs (wordOf_bytes _)⟩
theorem oraAbx (addr : Addr) : Statement (.oraAbx addr) := ⟨rfl, rfl, _, rfl, rfl, congrArg Instr.oraAbx (wordOf_bytes _)⟩
theorem oraAby (addr : Addr) : Statement (.oraAby addr) := ⟨rfl, rfl, _, rfl, rfl, congrArg Instr.oraAby (wordOf_bytes _)⟩
theorem oraIzx (zp : Byte) : Statement (.oraIzx zp) := ⟨rfl, rfl, _, rfl, rfl, rfl⟩
theorem oraIzy (zp : Byte) : Statement (.oraIzy zp) := ⟨rfl, rfl, _, rfl, rfl, rfl⟩
theorem eorImm (imm : Byte) : Statement (.eorImm imm) := ⟨rfl, rfl, _, rfl, rfl, rfl⟩
theorem eorZp (zp : Byte) : Statement (.eorZp zp) := ⟨rfl, rfl, _, rfl, rfl, rfl⟩
theorem eorZpx (zp : Byte) : Statement (.eorZpx zp) := ⟨rfl, rfl, _, rfl, rfl, rfl⟩
theorem eorAbs (addr : Addr) : Statement (.eorAbs addr) := ⟨rfl, rfl, _, rfl, rfl, congrArg Instr.eorAbs (wordOf_bytes _)⟩
theorem eorAbx (addr : Addr) : Statement (.eorAbx addr) := ⟨rfl, rfl, _, rfl, rfl, congrArg Instr.eorAbx (wordOf_bytes _)⟩
theorem eorAby (addr : Addr) : Statement (.eorAby addr) := ⟨rfl, rfl, _, rfl, rfl, congrArg Instr.eorAby (wordOf_bytes _)⟩
theorem eorIzx (zp : Byte) : Statement (.eorIzx zp) := ⟨rfl, rfl, _, rfl, rfl, rfl⟩
theorem eorIzy (zp : Byte) : Statement (.eorIzy zp) := ⟨rfl, rfl, _, rfl, rfl, rfl⟩
theorem bitZp (zp : Byte) : Statement (.bitZp zp) := ⟨rfl, rfl, _, rfl, rfl, rfl⟩
theorem bitAbs (addr : Addr) : Statement (.bitAbs addr) := ⟨rfl, rfl, _, rfl, rfl, congrArg Instr.bitAbs (wordOf_bytes _)⟩
theorem aslAcc : Statement (.aslAcc) := ⟨rfl, rfl, _, rfl, rfl, rfl⟩
theorem aslZp (zp : Byte) : Statement (.aslZp zp) := ⟨rfl, rfl, _, rfl, rfl, rfl⟩
theorem aslZpx (zp : Byte) : Statement (.aslZpx zp) := ⟨rfl, rfl, _, rfl, rfl, rfl⟩
theorem aslAbs (addr : Addr) : Statement (.aslAbs addr) := ⟨rfl, rfl, _, rfl, rfl, congrArg Instr.aslAbs (wordOf_bytes _)⟩
theorem aslAbx (addr : Addr) : Statement (.aslAbx addr) := ⟨rfl, rfl, _, rfl, rfl, congrArg Instr.aslAbx (wordOf_bytes _)⟩
theorem lsrAcc : Statement (.lsrAcc) := ⟨rfl, rfl, _, rfl, rfl, rfl⟩
theorem lsrZp (zp : Byte) : Statement (.lsrZp zp) := ⟨rfl, rfl, _, rfl, rfl, rfl⟩
theorem lsrZpx (zp : Byte) : Statement (.lsrZpx zp) := ⟨rfl, rfl, _, rfl, rfl, rfl⟩
theorem lsrAbs (addr : Addr) : Statement (.lsrAbs addr) := ⟨rfl, rfl, _, rfl, rfl, congrArg Instr.lsrAbs (wordOf_bytes _)⟩
theorem lsrAbx (addr : Addr) : Statement (.lsrAbx addr) := ⟨rfl, rfl, _, rfl, rfl, congrArg Instr.lsrAbx (wordOf_bytes _)⟩
theorem rolAcc : Statement (.rolAcc) := ⟨rfl, rfl, _, rfl, rfl, rfl⟩
theorem rolZp (zp : Byte) : Statement (.rolZp zp) := ⟨rfl, rfl, _, rfl, rfl, rfl⟩
theorem rolZpx (zp : Byte) : Statement (.rolZpx zp) := ⟨rfl, rfl, _, rfl, rfl, rfl⟩
theorem rolAbs (addr : Addr) : Statement (.rolAbs addr) := ⟨rfl, rfl, _, rfl, rfl, congrArg Instr.rolAbs (wordOf_bytes _)⟩
theorem rolAbx (addr : Addr) : Statement (.rolAbx addr) := ⟨rfl, rfl, _, rfl, rfl, congrArg Instr.rolAbx (wordOf_bytes _)⟩
theorem rorAcc : Statement (.rorAcc) := ⟨rfl, rfl, _, rfl, rfl, rfl⟩
theorem rorZp (zp : Byte) : Statement (.rorZp zp) := ⟨rfl, rfl, _, rfl, rfl, rfl⟩
theorem rorZpx (zp : Byte) : Statement (.rorZpx zp) := ⟨rfl, rfl, _, rfl, rfl, rfl⟩
theorem rorAbs (addr : Addr) : Statement (.rorAbs addr) := ⟨rfl, rfl, _, rfl, rfl, congrArg Instr.rorAbs (wordOf_bytes _)⟩
theorem rorAbx (addr : Addr) : Statement (.rorAbx addr) := ⟨rfl, rfl, _, rfl, rfl, congrArg Instr.rorAbx (wordOf_bytes _)⟩
theorem incZp (zp : Byte) : Statement (.incZp zp) := ⟨rfl, rfl, _, rfl, rfl, rfl⟩
theorem incZpx (zp : Byte) : Statement (.incZpx zp) := ⟨rfl, rfl, _, rfl, rfl, rfl⟩
theorem incAbs (addr : Addr) : Statement (.incAbs addr) := ⟨rfl, rfl, _, rfl, rfl, congrArg Instr.incAbs (wordOf_bytes _)⟩
theorem incAbx (addr : Addr) : Statement (.incAbx addr) := ⟨rfl, rfl, _, rfl, rfl, congrArg Instr.incAbx (wordOf_bytes _)⟩
theorem decZp (zp : Byte) : Statement (.decZp zp) := ⟨rfl, rfl, _, rfl, rfl, rfl⟩
theorem decZpx (zp : Byte) : Statement (.decZpx zp) := ⟨rfl, rfl, _, rfl, rfl, rfl⟩
theorem decAbs (addr : Addr) : Statement (.decAbs addr) := ⟨rfl, rfl, _, rfl, rfl, congrArg Instr.decAbs (wordOf_bytes _)⟩
theorem decAbx (addr : Addr) : Statement (.decAbx addr) := ⟨rfl, rfl, _, rfl, rfl, congrArg Instr.decAbx (wordOf_bytes _)⟩
theorem inx : Statement (.inx) := ⟨rfl, rfl, _, rfl, rfl, rfl⟩
theorem iny : Statement (.iny) := ⟨rfl, rfl, _, rfl, rfl, rfl⟩
theorem dex : Statement (.dex) := ⟨rfl, rfl, _, rfl, rfl, rfl⟩
theorem dey : Statement (.dey) := ⟨rfl, rfl, _, rfl, rfl, rfl⟩
theorem bcc (rel : Byte) : Statement (.bcc rel) := ⟨rfl, rfl, _, rfl, rfl, rfl⟩
theorem bcs (rel : Byte) : Statement (.bcs rel) := ⟨rfl, rfl, _, rfl, rfl, rfl⟩
theorem beq (rel : Byte) : Statement (.beq rel) := ⟨rfl, rfl, _, rfl, rfl, rfl⟩
theorem bne (rel : Byte) : Statement (.bne rel) := ⟨rfl, rfl, _, rfl, rfl, rfl⟩
theorem bmi (rel : Byte) : Statement (.bmi rel) := ⟨rfl, rfl, _, rfl, rfl, rfl⟩
theorem bpl (rel : Byte) : Statement (.bpl rel) := ⟨rfl, rfl, _, rfl, rfl, rfl⟩
theorem bvc (rel : Byte) : Statement (.bvc rel) := ⟨rfl, rfl, _, rfl, rfl, rfl⟩
theorem bvs (rel : Byte) : Statement (.bvs rel) := ⟨rfl, rfl, _, rfl, rfl, rfl⟩
theorem jmpAbs (addr : Addr) : Statement (.jmpAbs addr) := ⟨rfl, rfl, _, rfl, rfl, congrArg Instr.jmpAbs (wordOf_bytes _)⟩
theorem jmpInd (ptr : Addr) : Statement (.jmpInd ptr) := ⟨rfl, rfl, _, rfl, rfl, congrArg Instr.jmpInd (wordOf_bytes _)⟩
theorem jsr (addr : Addr) : Statement (.jsr addr) := ⟨rfl, rfl, _, rfl, rfl, congrArg Instr.jsr (wordOf_bytes _)⟩
theorem rts : Statement (.rts) := ⟨rfl, rfl, _, rfl, rfl, rfl⟩
theorem pha : Statement (.pha) := ⟨rfl, rfl, _, rfl, rfl, rfl⟩
theorem php : Statement (.php) := ⟨rfl, rfl, _, rfl, rfl, rfl⟩
theorem pla : Statement (.pla) := ⟨rfl, rfl, _, rfl, rfl, rfl⟩
theorem plp : Statement (.plp) := ⟨rfl, rfl, _, rfl, rfl, rfl⟩
theorem clc : Statement (.clc) := ⟨rfl, rfl, _, rfl, rfl, rfl⟩
theorem cld : Statement (.cld) := ⟨rfl, rfl, _, rfl, rfl, rfl⟩
theorem cli : Statement (.cli) := ⟨rfl, rfl, _, rfl, rfl, rfl⟩
theorem clv : Statement (.clv) := ⟨rfl, rfl, _, rfl, rfl, rfl⟩
theorem sec : Statement (.sec) := ⟨rfl, rfl, _, rfl, rfl, rfl⟩
theorem sed : Statement (.sed) := ⟨rfl, rfl, _, rfl, rfl, rfl⟩
theorem sei : Statement (.sei) := ⟨rfl, rfl, _, rfl, rfl, rfl⟩
theorem nop : Statement (.nop) := ⟨rfl, rfl, _, rfl, rfl, rfl⟩
theorem brk : Statement (.brk) := ⟨rfl, rfl, _, rfl, rfl, rfl⟩
theorem rti : Statement (.rti) := ⟨rfl, rfl, _, rfl, rfl, rfl⟩

end Sys2Proof.Laws.EncodeShape
end

