-- ==== Sys2Proof/Laws/Step.lean ====
section
/-! SUPPORT. What a step can do, said once: the inversion lemmas of one instruction's run and of an iteration, and what a
rejected opcode means. -/

namespace Sys2Proof

/-- A row found in the opcode table is a row of the table, with the opcode asked for. -/
theorem opcodeLookup_some {b : Byte} {r : OpRow} (h : opcodeLookup b = some r) : r ∈ opcodeTable ∧ r.opcode = b :=
  ⟨List.mem_of_find?_eq_some h, by simpa using List.find?_some h⟩

/-- The decoder rejects for one reason only, an opcode byte that is in no row (30_encoding.md R64). -/
theorem decode_error {b0 b1 b2 : Byte} {e : DecodeError} (h : decode b0 b1 b2 = .error e) :
    opcodeLookup b0 = none ∧ e = .unknownOpcode b0 := by
  unfold decode at h
  split at h
  · cases h
  · rename_i hn
    cases h
    exact ⟨hn, rfl⟩

/-- The decoder accepts by a row of the table. -/
theorem decode_ok {b0 b1 b2 : Byte} {i : Instr} (h : decode b0 b1 b2 = .ok i) :
    ∃ r, opcodeLookup b0 = some r ∧ i = r.build b1 b2 := by
  unfold decode at h
  split at h
  · rename_i r hr
    cases h
    exact ⟨r, hr, rfl⟩
  · cases h

namespace Machine

/-- Steps (2) to (6) of an iteration (40_sequencer_addressing.md R80): the fault, or an instruction's effect and its
cycles. -/
theorem runInstruction_cases {s t : State} (h : runInstruction s = .next t) :
    (∃ e, s.fetchDecode = .error e ∧ t = s.raiseUnknownOpcode) ∨
    (∃ i u, s.fetchDecode = .ok i ∧ exec i s = .next u ∧ t = u.accountCycles s.fetchOpcode) := by
  unfold runInstruction at h
  split at h
  · rename_i e he
    cases h
    exact .inl ⟨e, he, rfl⟩
  · rename_i i hi
    split at h <;> cases h
    rename_i u hu
    exact .inr ⟨i, u, hi, hu, rfl⟩

/-- Everything an iteration can do (R80): nothing when Halted, the stop, or steps (2) to (6) after the interrupt check. -/
theorem step_cases {s t : State} (h : step s = .next t) :
    (s.running = false ∧ t = s) ∨
    (s.running = true ∧ s.stopReq = true ∧ t = s.stop) ∨
    (s.running = true ∧ s.stopReq = false ∧ runInstruction s.interruptCheck = .next t) := by
  unfold step iteration at h
  cases hr : s.running <;> cases hs : s.stopReq <;> simp [hr, hs] at h
  · exact .inl ⟨rfl, h.symm⟩
  · exact .inl ⟨rfl, h.symm⟩
  · exact .inr (.inr ⟨rfl, rfl, h⟩)
  · exact .inr (.inl ⟨rfl, rfl, h.symm⟩)

end Machine

end Sys2Proof
end

