-- ==== Sys2Proof/Tests/Slice0.lean ====
section
/-! SUPPORT. The model's own tests: ill-formed words the check refuses, the decoding of every opcode as the map of
30_encoding.md R66 prints it, one-step vectors taken from 95_test_vectors.md, and for every obligation with hypotheses a
witness that meets them. -/

open Sys2Proof Sys2Proof.Machine Sys2Proof.Stated

namespace Sys2Proof.Tests

set_option Elab.async false

/-! ## Ill-formed words (30_encoding.md R60, R68) -/

theorem test_wf_refuses_the_empty_word : wordHasOpcode [] = false ∧ wordWf [] = false := by decide

theorem test_wf_refuses_an_illegal_opcode : wordOpcodeLegal [0x02] = false ∧ wordWf [0x02] = false ∧ wordWf [0xFF, 0x00] = false := by
  decide

theorem test_wf_refuses_four_bytes :
    wordLengthLegal [0xAD, 0x34, 0x12, 0x00] = false ∧ wordWf [0xAD, 0x34, 0x12, 0x00] = false := by decide

theorem test_wf_accepts_a_word : wordWf [0xAD, 0x34, 0x12] = true := by decide

/-! ## Decoding: the map of R66, row by row; a byte operand reads 0x34, a word operand 0x1234 (R62, R63) -/

theorem test_decode_row_0 :
    decode 0x00 0x34 0x12 = .ok .brk ∧
    decode 0x01 0x34 0x12 = .ok (.oraIzx 0x34) ∧
    decode 0x05 0x34 0x12 = .ok (.oraZp 0x34) ∧
    decode 0x06 0x34 0x12 = .ok (.aslZp 0x34) ∧
    decode 0x08 0x34 0x12 = .ok .php ∧
    decode 0x09 0x34 0x12 = .ok (.oraImm 0x34) ∧
    decode 0x0A 0x34 0x12 = .ok .aslAcc ∧
    decode 0x0D 0x34 0x12 = .ok (.oraAbs 0x1234) ∧
    decode 0x0E 0x34 0x12 = .ok (.aslAbs 0x1234) :=
  ⟨rfl, rfl, rfl, rfl, rfl, rfl, rfl, rfl, rfl⟩

theorem test_decode_row_1 :
    decode 0x10 0x34 0x12 = .ok (.bpl 0x34) ∧
    decode 0x11 0x34 0x12 = .ok (.oraIzy 0x34) ∧
    decode 0x15 0x34 0x12 = .ok (.oraZpx 0x34) ∧
    decode 0x16 0x34 0x12 = .ok (.aslZpx 0x34) ∧
    decode 0x18 0x34 0x12 = .ok .clc ∧
    decode 0x19 0x34 0x12 = .ok (.oraAby 0x1234) ∧
    decode 0x1D 0x34 0x12 = .ok (.oraAbx 0x1234) ∧
    decode 0x1E 0x34 0x12 = .ok (.aslAbx 0x1234) :=
  ⟨rfl, rfl, rfl, rfl, rfl, rfl, rfl, rfl⟩

theorem test_decode_row_2 :
    decode 0x20 0x34 0x12 = .ok (.jsr 0x1234) ∧
    decode 0x21 0x34 0x12 = .ok (.andIzx 0x34) ∧
    decode 0x24 0x34 0x12 = .ok (.bitZp 0x34) ∧
    decode 0x25 0x34 0x12 = .ok (.andZp 0x34) ∧
    decode 0x26 0x34 0x12 = .ok (.rolZp 0x34) ∧
    decode 0x28 0x34 0x12 = .ok .plp ∧
    decode 0x29 0x34 0x12 = .ok (.andImm 0x34) ∧
    decode 0x2A 0x34 0x12 = .ok .rolAcc ∧
    decode 0x2C 0x34 0x12 = .ok (.bitAbs 0x1234) ∧
    decode 0x2D 0x34 0x12 = .ok (.andAbs 0x1234) ∧
    decode 0x2E 0x34 0x12 = .ok (.rolAbs 0x1234) :=
  ⟨rfl, rfl, rfl, rfl, rfl, rfl, rfl, rfl, rfl, rfl, rfl⟩

theorem test_decode_row_3 :
    decode 0x30 0x34 0x12 = .ok (.bmi 0x34) ∧
    decode 0x31 0x34 0x12 = .ok (.andIzy 0x34) ∧
    decode 0x35 0x34 0x12 = .ok (.andZpx 0x34) ∧
    decode 0x36 0x34 0x12 = .ok (.rolZpx 0x34) ∧
    decode 0x38 0x34 0x12 = .ok .sec ∧
    decode 0x39 0x34 0x12 = .ok (.andAby 0x1234) ∧
    decode 0x3D 0x34 0x12 = .ok (.andAbx 0x1234) ∧
    decode 0x3E 0x34 0x12 = .ok (.rolAbx 0x1234) :=
  ⟨rfl, rfl, rfl, rfl, rfl, rfl, rfl, rfl⟩

theorem test_decode_row_4 :
    decode 0x40 0x34 0x12 = .ok .rti ∧
    decode 0x41 0x34 0x12 = .ok (.eorIzx 0x34) ∧
    decode 0x45 0x34 0x12 = .ok (.eorZp 0x34) ∧
    decode 0x46 0x34 0x12 = .ok (.lsrZp 0x34) ∧
    decode 0x48 0x34 0x12 = .ok .pha ∧
    decode 0x49 0x34 0x12 = .ok (.eorImm 0x34) ∧
    decode 0x4A 0x34 0x12 = .ok .lsrAcc ∧
    decode 0x4C 0x34 0x12 = .ok (.jmpAbs 0x1234) ∧
    decode 0x4D 0x34 0x12 = .ok (.eorAbs 0x1234) ∧
    decode 0x4E 0x34 0x12 = .ok (.lsrAbs 0x1234) :=
  ⟨rfl, rfl, rfl, rfl, rfl, rfl, rfl, rfl, rfl, rfl⟩

theorem test_decode_row_5 :
    decode 0x50 0x34 0x12 = .ok (.bvc 0x34) ∧
    decode 0x51 0x34 0x12 = .ok (.eorIzy 0x34) ∧
    decode 0x55 0x34 0x12 = .ok (.eorZpx 0x34) ∧
    decode 0x56 0x34 0x12 = .ok (.lsrZpx 0x34) ∧
    decode 0x58 0x34 0x12 = .ok .cli ∧
    decode 0x59 0x34 0x12 = .ok (.eorAby 0x1234) ∧
    decode 0x5D 0x34 0x12 = .ok (.eorAbx 0x1234) ∧
    decode 0x5E 0x34 0x12 = .ok (.lsrAbx 0x1234) :=
  ⟨rfl, rfl, rfl, rfl, rfl, rfl, rfl, rfl⟩

theorem test_decode_row_6 :
    decode 0x60 0x34 0x12 = .ok .rts ∧
    decode 0x61 0x34 0x12 = .ok (.adcIzx 0x34) ∧
    decode 0x65 0x34 0x12 = .ok (.adcZp 0x34) ∧
    decode 0x66 0x34 0x12 = .ok (.rorZp 0x34) ∧
    decode 0x68 0x34 0x12 = .ok .pla ∧
    decode 0x69 0x34 0x12 = .ok (.adcImm 0x34) ∧
    decode 0x6A 0x34 0x12 = .ok .rorAcc ∧
    decode 0x6C 0x34 0x12 = .ok (.jmpInd 0x1234) ∧
    decode 0x6D 0x34 0x12 = .ok (.adcAbs 0x1234) ∧
    decode 0x6E 0x34 0x12 = .ok (.rorAbs 0x1234) :=
  ⟨rfl, rfl, rfl, rfl, rfl, rfl, rfl, rfl, rfl, rfl⟩

theorem test_decode_row_7 :
    decode 0x70 0x34 0x12 = .ok (.bvs 0x34) ∧
    decode 0x71 0x34 0x12 = .ok (.adcIzy 0x34) ∧
    decode 0x75 0x34 0x12 = .ok (.adcZpx 0x34) ∧
    decode 0x76 0x34 0x12 = .ok (.rorZpx 0x34) ∧
    decode 0x78 0x34 0x12 = .ok .sei ∧
    decode 0x79 0x34 0x12 = .ok (.adcAby 0x1234) ∧
    decode 0x7D 0x34 0x12 = .ok (.adcAbx 0x1234) ∧
    decode 0x7E 0x34 0x12 = .ok (.rorAbx 0x1234) :=
  ⟨rfl, rfl, rfl, rfl, rfl, rfl, rfl, rfl⟩

theorem test_decode_row_8 :
    decode 0x81 0x34 0x12 = .ok (.staIzx 0x34) ∧
    decode 0x84 0x34 0x12 = .ok (.styZp 0x34) ∧
    decode 0x85 0x34 0x12 = .ok (.staZp 0x34) ∧
    decode 0x86 0x34 0x12 = .ok (.stxZp 0x34) ∧
    decode 0x88 0x34 0x12 = .ok .dey ∧
    decode 0x8A 0x34 0x12 = .ok .txa ∧
    decode 0x8C 0x34 0x12 = .ok (.styAbs 0x1234) ∧
    decode 0x8D 0x34 0x12 = .ok (.staAbs 0x1234) ∧
    decode 0x8E 0x34 0x12 = .ok (.stxAbs 0x1234) :=
  ⟨rfl, rfl, rfl, rfl, rfl, rfl, rfl, rfl, rfl⟩

theorem test_decode_row_9 :
    decode 0x90 0x34 0x12 = .ok (.bcc 0x34) ∧
    decode 0x91 0x34 0x12 = .ok (.staIzy 0x34) ∧
    decode 0x94 0x34 0x12 = .ok (.styZpx 0x34) ∧
    decode 0x95 0x34 0x12 = .ok (.staZpx 0x34) ∧
    decode 0x96 0x34 0x12 = .ok (.stxZpy 0x34) ∧
    decode 0x98 0x34 0x12 = .ok .tya ∧
    decode 0x99 0x34 0x12 = .ok (.staAby 0x1234) ∧
    decode 0x9A 0x34 0x12 = .ok .txs ∧
    decode 0x9D 0x34 0x12 = .ok (.staAbx 0x1234) :=
  ⟨rfl, rfl, rfl, rfl, rfl, rfl, rfl, rfl, rfl⟩

theorem test_decode_row_a :
    decode 0xA0 0x34 0x12 = .ok (.ldyImm 0x34) ∧
    decode 0xA1 0x34 0x12 = .ok (.ldaIzx 0x34) ∧
    decode 0xA2 0x34 0x12 = .ok (.ldxImm 0x34) ∧
    decode 0xA4 0x34 0x12 = .ok (.ldyZp 0x34) ∧
    decode 0xA5 0x34 0x12 = .ok (.ldaZp 0x34) ∧
    decode 0xA6 0x34 0x12 = .ok (.ldxZp 0x34) ∧
    decode 0xA8 0x34 0x12 = .ok .tay ∧
    decode 0xA9 0x34 0x12 = .ok (.ldaImm 0x34) ∧
    decode 0xAA 0x34 0x12 = .ok .tax ∧
    decode 0xAC 0x34 0x12 = .ok (.ldyAbs 0x1234) ∧
    decode 0xAD 0x34 0x12 = .ok (.ldaAbs 0x1234) ∧
    decode 0xAE 0x34 0x12 = .ok (.ldxAbs 0x1234) :=
  ⟨rfl, rfl, rfl, rfl, rfl, rfl, rfl, rfl, rfl, rfl, rfl, rfl⟩

theorem test_decode_row_b :
    decode 0xB0 0x34 0x12 = .ok (.bcs 0x34) ∧
    decode 0xB1 0x34 0x12 = .ok (.ldaIzy 0x34) ∧
    decode 0xB4 0x34 0x12 = .ok (.ldyZpx 0x34) ∧
    decode 0xB5 0x34 0x12 = .ok (.ldaZpx 0x34) ∧
    decode 0xB6 0x34 0x12 = .ok (.ldxZpy 0x34) ∧
    decode 0xB8 0x34 0x12 = .ok .clv ∧
    decode 0xB9 0x34 0x12 = .ok (.ldaAby 0x1234) ∧
    decode 0xBA 0x34 0x12 = .ok .tsx ∧
    decode 0xBC 0x34 0x12 = .ok (.ldyAbx 0x1234) ∧
    decode 0xBD 0x34 0x12 = .ok (.ldaAbx 0x1234) ∧
    decode 0xBE 0x34 0x12 = .ok (.ldxAby 0x1234) :=
  ⟨rfl, rfl, rfl, rfl, rfl, rfl, rfl, rfl, rfl, rfl, rfl⟩

theorem test_decode_row_c :
    decode 0xC0 0x34 0x12 = .ok (.cpyImm 0x34) ∧
    decode 0xC1 0x34 0x12 = .ok (.cmpIzx 0x34) ∧
    decode 0xC4 0x34 0x12 = .ok (.cpyZp 0x34) ∧
    decode 0xC5 0x34 0x12 = .ok (.cmpZp 0x34) ∧
    decode 0xC6 0x34 0x12 = .ok (.decZp 0x34) ∧
    decode 0xC8 0x34 0x12 = .ok .iny ∧
    decode 0xC9 0x34 0x12 = .ok (.cmpImm 0x34) ∧
    decode 0xCA 0x34 0x12 = .ok .dex ∧
    decode 0xCC 0x34 0x12 = .ok (.cpyAbs 0x1234) ∧
    decode 0xCD 0x34 0x12 = .ok (.cmpAbs 0x1234) ∧
    decode 0xCE 0x34 0x12 = .ok (.decAbs 0x1234) :=
  ⟨rfl, rfl, rfl, rfl, rfl, rfl, rfl, rfl, rfl, rfl, rfl⟩

theorem test_decode_row_d :
    decode 0xD0 0x34 0x12 = .ok (.bne 0x34) ∧
    decode 0xD1 0x34 0x12 = .ok (.cmpIzy 0x34) ∧
    decode 0xD5 0x34 0x12 = .ok (.cmpZpx 0x34) ∧
    decode 0xD6 0x34 0x12 = .ok (.decZpx 0x34) ∧
    decode 0xD8 0x34 0x12 = .ok .cld ∧
    decode 0xD9 0x34 0x12 = .ok (.cmpAby 0x1234) ∧
    decode 0xDD 0x34 0x12 = .ok (.cmpAbx 0x1234) ∧
    decode 0xDE 0x34 0x12 = .ok (.decAbx 0x1234) :=
  ⟨rfl, rfl, rfl, rfl, rfl, rfl, rfl, rfl⟩

theorem test_decode_row_e :
    decode 0xE0 0x34 0x12 = .ok (.cpxImm 0x34) ∧
    decode 0xE1 0x34 0x12 = .ok (.sbcIzx 0x34) ∧
    decode 0xE4 0x34 0x12 = .ok (.cpxZp 0x34) ∧
    decode 0xE5 0x34 0x12 = .ok (.sbcZp 0x34) ∧
    decode 0xE6 0x34 0x12 = .ok (.incZp 0x34) ∧
    decode 0xE8 0x34 0x12 = .ok .inx ∧
    decode 0xE9 0x34 0x12 = .ok (.sbcImm 0x34) ∧
    decode 0xEA 0x34 0x12 = .ok .nop ∧
    decode 0xEC 0x34 0x12 = .ok (.cpxAbs 0x1234) ∧
    decode 0xED 0x34 0x12 = .ok (.sbcAbs 0x1234) ∧
    decode 0xEE 0x34 0x12 = .ok (.incAbs 0x1234) :=
  ⟨rfl, rfl, rfl, rfl, rfl, rfl, rfl, rfl, rfl, rfl, rfl⟩

theorem test_decode_row_f :
    decode 0xF0 0x34 0x12 = .ok (.beq 0x34) ∧
    decode 0xF1 0x34 0x12 = .ok (.sbcIzy 0x34) ∧
    decode 0xF5 0x34 0x12 = .ok (.sbcZpx 0x34) ∧
    decode 0xF6 0x34 0x12 = .ok (.incZpx 0x34) ∧
    decode 0xF8 0x34 0x12 = .ok .sed ∧
    decode 0xF9 0x34 0x12 = .ok (.sbcAby 0x1234) ∧
    decode 0xFD 0x34 0x12 = .ok (.sbcAbx 0x1234) ∧
    decode 0xFE 0x34 0x12 = .ok (.incAbx 0x1234) :=
  ⟨rfl, rfl, rfl, rfl, rfl, rfl, rfl, rfl⟩

theorem test_decode_rejects_by_name :
    decode 0xFF 0x34 0x12 = .error (.unknownOpcode 0xFF) ∧ decode 0x02 0x34 0x12 = .error (.unknownOpcode 0x02) ∧
    decodeBytes [0xAD, 0x34] = .error .truncated ∧ decodeBytes [] = .error .truncated := ⟨rfl, rfl, rfl, rfl⟩

theorem test_decode_table_word : decodeTableWord 24 0x1234AD = some (.ldaAbs 0x1234) ∧ decodeTableWord 8 0xFF = none := by
  decide +kernel

/-! ## One step on a small state: the vectors of 95_test_vectors.md, named there. The start is the reset state over a zero
fill with the bytes given, straps on, `PC` as given. -/

/-- An image from the bytes at some addresses. -/
def image : List (Addr × List Byte) → Memory
  | [] => []
  | (_, []) :: l => image l
  | (a, [b]) :: l => (image l).write a b
  | (a, [b, c]) :: l => ((image l).write a b).write (a + 1) c
  | (a, b :: c :: d :: _) :: l => (((image l).write a b).write (a + 1) c).write (a + 2) d

/-- Straps on, the default cycle table. -/
def on : Straps := { haltOnBreak := true, decimalEnable := true, cycleExceptions := [] }

/-- The start state of section 2's conventions, at an address. -/
def start (pc : Addr) (bytes : List (Addr × List Byte)) : State := { State.resetOver on (image bytes) with pc := pc }

/-- The flags by the letters that are set. -/
def flagsOf (c z i d b v n : Bool) : Flags := { c := c, z := z, i := i, d := d, b := b, v := v, n := n }

/-- A step answers a next state that passes the check. -/
def stepMeets (s : State) (check : State → Bool) : Bool :=
  match step s with
  | .next t => check t
  | .fault _ => false
  | .refused _ => false

/-- A1 -/
theorem test_lda_imm :
    stepMeets (start 0x0200 [(0x0200, [0xA9, 0x80])])
      (fun t => t.a == 0x80 && t.flags.n == true && t.flags.z == false && t.pc == 0x0202) = true := by decide +kernel

/-- A3 -/
theorem test_ldx_imm :
    stepMeets { start 0x0200 [(0x0200, [0xA2, 0x00])] with x := 0x09 }
      (fun t => t.x == 0x00 && t.flags.z == true && t.flags.n == false) = true := by decide +kernel

/-- A4 -/
theorem test_ldy_imm :
    stepMeets (start 0x0200 [(0x0200, [0xA0, 0xFF])])
      (fun t => t.y == 0xFF && t.flags.n == true && t.flags.z == false) = true := by decide +kernel

/-- A5 -/
theorem test_lda_zp :
    stepMeets (start 0x0200 [(0x0200, [0xA5, 0x10]), (0x0010, [0x7F])])
      (fun t => t.a == 0x7F && t.flags.n == false && t.flags.z == false && t.pc == 0x0202) = true := by decide +kernel

/-- A6, S6 -/
theorem test_lda_zpx_wraps :
    stepMeets { start 0x0200 [(0x0200, [0xB5, 0xFF]), (0x0001, [0x44]), (0x0101, [0x99])] with x := 0x02 }
      (fun t => t.a == 0x44) = true := by decide +kernel

/-- A7 -/
theorem test_ldx_zpy_wraps :
    stepMeets { start 0x0200 [(0x0200, [0xB6, 0xF0]), (0x0010, [0x81]), (0x0110, [0x01])] with y := 0x20 }
      (fun t => t.x == 0x81 && t.flags.n == true) = true := by decide +kernel

/-- A8 -/
theorem test_ldy_zpx_wraps :
    stepMeets { start 0x0200 [(0x0200, [0xB4, 0x10]), (0x0008, [0x33])] with x := 0xF8 }
      (fun t => t.y == 0x33) = true := by decide +kernel

/-- A9 -/
theorem test_lda_abs :
    stepMeets (start 0x0200 [(0x0200, [0xAD, 0x34, 0x12]), (0x1234, [0xAB])])
      (fun t => t.a == 0xAB && t.flags.n == true && t.pc == 0x0203) = true := by decide +kernel

/-- A10 -/
theorem test_lda_abx :
    stepMeets { start 0x0200 [(0x0200, [0xBD, 0xFF, 0x12]), (0x1300, [0x01])] with x := 0x01 }
      (fun t => t.a == 0x01) = true := by decide +kernel

/-- A11 -/
theorem test_lda_aby_wraps :
    stepMeets { start 0x0200 [(0x0200, [0xB9, 0xFF, 0xFF]), (0x0001, [0x5A])] with y := 0x02 }
      (fun t => t.a == 0x5A) = true := by decide +kernel

/-- A12 -/
theorem test_lda_izx :
    stepMeets { start 0x0200 [(0x0200, [0xA1, 0x20]), (0x0024, [0x00]), (0x0025, [0x30]), (0x3000, [0xEE])] with x := 0x04 }
      (fun t => t.a == 0xEE && t.flags.n == true) = true := by decide +kernel

/-- A13 -/
theorem test_lda_izx_pointer_wraps :
    stepMeets { start 0x0200 [(0x0200, [0xA1, 0xFE]), (0x00FF, [0x34]), (0x0000, [0x12]), (0x0100, [0x99]), (0x1234, [0x77])] with x := 0x01 }
      (fun t => t.a == 0x77) = true := by decide +kernel

/-- A15 -/
theorem test_lda_izy :
    stepMeets { start 0x0200 [(0x0200, [0xB1, 0x40]), (0x0040, [0xF8]), (0x0041, [0x20]), (0x2108, [0x66])] with y := 0x10 }
      (fun t => t.a == 0x66) = true := by decide +kernel

/-- A16 -/
theorem test_lda_izy_pointer_wraps :
    stepMeets { start 0x0200 [(0x0200, [0xB1, 0xFF]), (0x00FF, [0x10]), (0x0000, [0x05]), (0x0100, [0x77]), (0x0512, [0xC3])] with y := 0x02 }
      (fun t => t.a == 0xC3 && t.flags.n == true) = true := by decide +kernel

/-- A18 -/
theorem test_ldx_aby :
    stepMeets { start 0x0200 [(0x0200, [0xBE, 0x00, 0x30]), (0x3005, [0x80])] with y := 0x05 }
      (fun t => t.x == 0x80 && t.flags.n == true) = true := by decide +kernel

/-- A19 -/
theorem test_ldy_abx :
    stepMeets { start 0x0200 [(0x0200, [0xBC, 0x00, 0x30]), (0x3005, [0x00])] with x := 0x05, y := 0x07 }
      (fun t => t.y == 0x00 && t.flags.z == true) = true := by decide +kernel

/-- B1 -/
theorem test_sta_abs :
    stepMeets { start 0x0200 [(0x0200, [0x8D, 0x00, 0x04])] with a := 0x5A, flags := flagsOf false true true false false false true }
      (fun t => t.readByte 0x0400 == 0x5A && t.flags == flagsOf false true true false false false true && t.pc == 0x0203) = true := by decide +kernel

/-- B2 -/
theorem test_sta_zpx :
    stepMeets { start 0x0200 [(0x0200, [0x95, 0xFF])] with a := 0x11, x := 0x02 }
      (fun t => t.readByte 0x0001 == 0x11 && t.flags == flagsOf false false true false false false false) = true := by decide +kernel

/-- B3 -/
theorem test_sta_abx :
    stepMeets { start 0x0200 [(0x0200, [0x9D, 0xFF, 0xFF])] with a := 0x22, x := 0x01 }
      (fun t => t.readByte 0x0000 == 0x22) = true := by decide +kernel

/-- B4 -/
theorem test_sta_aby :
    stepMeets { start 0x0200 [(0x0200, [0x99, 0x00, 0x30])] with a := 0x33, y := 0xFF }
      (fun t => t.readByte 0x30FF == 0x33) = true := by decide +kernel

/-- B5 -/
theorem test_sta_izx :
    stepMeets { start 0x0200 [(0x0200, [0x81, 0x20]), (0x0024, [0x00]), (0x0025, [0x30])] with a := 0x44, x := 0x04 }
      (fun t => t.readByte 0x3000 == 0x44) = true := by decide +kernel

/-- B6 -/
theorem test_sta_izy :
    stepMeets { start 0x0200 [(0x0200, [0x91, 0x40]), (0x0040, [0xF8]), (0x0041, [0x20])] with a := 0x55, y := 0x10 }
      (fun t => t.readByte 0x2108 == 0x55) = true := by decide +kernel

/-- B7 -/
theorem test_stx_zp :
    stepMeets { start 0x0200 [(0x0200, [0x86, 0x10])] with x := 0x07 }
      (fun t => t.readByte 0x0010 == 0x07) = true := by decide +kernel

/-- B8 -/
theorem test_stx_zpy :
    stepMeets { start 0x0200 [(0x0200, [0x96, 0xFF])] with x := 0x08, y := 0x01 }
      (fun t => t.readByte 0x0000 == 0x08) = true := by decide +kernel

/-- B9 -/
theorem test_stx_abs :
    stepMeets { start 0x0200 [(0x0200, [0x8E, 0x34, 0x12])] with x := 0x09 }
      (fun t => t.readByte 0x1234 == 0x09) = true := by decide +kernel

/-- B10 -/
theorem test_sty_zpx :
    stepMeets { start 0x0200 [(0x0200, [0x94, 0x10])] with x := 0xF8, y := 0x33 }
      (fun t => t.readByte 0x0008 == 0x33) = true := by decide +kernel

/-- B11 -/
theorem test_sty_abs :
    stepMeets { start 0x0200 [(0x0200, [0x8C, 0x34, 0x12])] with y := 0x0A }
      (fun t => t.readByte 0x1234 == 0x0A) = true := by decide +kernel

/-- T1 -/
theorem test_tax :
    stepMeets { start 0x0200 [(0x0200, [0xAA])] with a := 0x00, x := 0x05 }
      (fun t => t.x == 0x00 && t.flags.z == true && t.flags.n == false && t.pc == 0x0201) = true := by decide +kernel

/-- T2 -/
theorem test_tay :
    stepMeets { start 0x0200 [(0x0200, [0xA8])] with a := 0x90 }
      (fun t => t.y == 0x90 && t.flags.n == true && t.flags.z == false) = true := by decide +kernel

/-- T3 -/
theorem test_tsx :
    stepMeets (start 0x0200 [(0x0200, [0xBA])])
      (fun t => t.x == 0xFF && t.flags.n == true && t.flags.z == false) = true := by decide +kernel

/-- T4 -/
theorem test_txa :
    stepMeets { start 0x0200 [(0x0200, [0x8A])] with x := 0x7F, a := 0x01 }
      (fun t => t.a == 0x7F && t.flags.n == false && t.flags.z == false) = true := by decide +kernel

/-- T5 -/
theorem test_txs_writes_no_flag :
    stepMeets { start 0x0200 [(0x0200, [0x9A])] with x := 0x00, flags := flagsOf false false true false false false true }
      (fun t => t.sp == 0x00 && t.flags == flagsOf false false true false false false true) = true := by decide +kernel

/-- T7 -/
theorem test_tya :
    stepMeets { start 0x0200 [(0x0200, [0x98])] with y := 0x00, a := 0x03 }
      (fun t => t.a == 0x00 && t.flags.z == true) = true := by decide +kernel

/-- AD1 -/
theorem test_adc_ad1 :
    stepMeets { start 0x0200 [(0x0200, [0x69, 0x01])] with a := 0x7F }
      (fun t => t.a == 0x80 && t.flags.c == false && t.flags.v == true && t.flags.n == true && t.flags.z == false) = true := by decide +kernel

/-- AD8, the operand in page zero -/
theorem test_adc_ad8 :
    stepMeets { start 0x0200 [(0x0200, [0x65, 0x10]), (0x0010, [0x90])] with a := 0xD0 }
      (fun t => t.a == 0x60 && t.flags.c == true && t.flags.v == true && t.flags.n == false && t.flags.z == false) = true := by decide +kernel

/-- SB4 -/
theorem test_sbc_sb4 :
    stepMeets { start 0x0200 [(0x0200, [0xE9, 0x01])] with a := 0x80, flags := flagsOf true false true false false false false }
      (fun t => t.a == 0x7F && t.flags.c == true && t.flags.v == true && t.flags.n == false && t.flags.z == false) = true := by decide +kernel

/-- SB6, the operand in page zero -/
theorem test_sbc_sb6 :
    stepMeets { start 0x0200 [(0x0200, [0xE5, 0x10]), (0x0010, [0x00])] with a := 0x00 }
      (fun t => t.a == 0xFF && t.flags.c == false && t.flags.v == false && t.flags.n == true && t.flags.z == false) = true := by decide +kernel

/-- BD1 -/
theorem test_decimal_bd1 :
    stepMeets { start 0x0200 [(0x0200, [0x69, 0x46])] with a := 0x58, flags := flagsOf true false true true false false false }
      (fun t => t.a == 0x05 && t.flags.c == true && t.flags.n == false && t.flags.z == false) = true := by decide +kernel

/-- BD6, the operand at an absolute address -/
theorem test_decimal_bd6 :
    stepMeets { start 0x0200 [(0x0200, [0x6D, 0x10, 0x00]), (0x0010, [0x99])] with a := 0x99, flags := flagsOf true false true true false false false }
      (fun t => t.a == 0x99 && t.flags.c == true && t.flags.n == true && t.flags.z == false) = true := by decide +kernel

/-- BD9 -/
theorem test_decimal_bd9 :
    stepMeets { start 0x0200 [(0x0200, [0xE9, 0x21])] with a := 0x12, flags := flagsOf true false true true false false false }
      (fun t => t.a == 0x91 && t.flags.c == false && t.flags.n == true && t.flags.z == false) = true := by decide +kernel

/-- BD12, the operand at an absolute address -/
theorem test_decimal_bd12 :
    stepMeets { start 0x0200 [(0x0200, [0xED, 0x10, 0x00]), (0x0010, [0x02])] with a := 0x32, flags := flagsOf false false true true false false false }
      (fun t => t.a == 0x29 && t.flags.c == true && t.flags.n == false && t.flags.z == false) = true := by decide +kernel

/-- BD1 with DECIMAL_ENABLE = false, the operand in page zero -/
theorem test_decimal_off :
    stepMeets { start 0x0200 [(0x0200, [0x65, 0x10]), (0x0010, [0x46])] with a := 0x58, flags := flagsOf true false true true false false false, straps := { on with decimalEnable := false } }
      (fun t => t.a == 0x9F && t.flags.c == false && t.flags.v == true && t.flags.n == true) = true := by decide +kernel

/-- CP5 -/
theorem test_cmp_n_is_bit_7 :
    stepMeets { start 0x0200 [(0x0200, [0xC9, 0x81])] with a := 0x00, flags := flagsOf false false true false false true false }
      (fun t => t.flags == flagsOf false false true false false true false && t.a == 0x00) = true := by decide +kernel

/-- CP2 -/
theorem test_cmp_equal :
    stepMeets { start 0x0200 [(0x0200, [0xC9, 0x10])] with a := 0x10, flags := flagsOf false false true false false true false }
      (fun t => t.flags == flagsOf true true true false false true false) = true := by decide +kernel

/-- CP8 -/
theorem test_cpx :
    stepMeets { start 0x0200 [(0x0200, [0xE0, 0x05])] with x := 0x05, flags := flagsOf false false true false false true false }
      (fun t => t.flags == flagsOf true true true false false true false) = true := by decide +kernel

/-- CP9 -/
theorem test_cpy :
    stepMeets { start 0x0200 [(0x0200, [0xC0, 0x10])] with y := 0x0F, flags := flagsOf false false true false false true false }
      (fun t => t.flags == flagsOf false false true false false true true) = true := by decide +kernel

/-- H1 -/
theorem test_and :
    stepMeets { start 0x0200 [(0x0200, [0x29, 0x0F])] with a := 0xF0 }
      (fun t => t.a == 0x00 && t.flags.z == true && t.flags.n == false) = true := by decide +kernel

/-- H3 -/
theorem test_ora :
    stepMeets { start 0x0200 [(0x0200, [0x09, 0x80])] with a := 0x01 }
      (fun t => t.a == 0x81 && t.flags.n == true) = true := by decide +kernel

/-- H5 -/
theorem test_eor :
    stepMeets { start 0x0200 [(0x0200, [0x49, 0xFF])] with a := 0x0F }
      (fun t => t.a == 0xF0 && t.flags.n == true) = true := by decide +kernel

/-- H8 -/
theorem test_bit_zp :
    stepMeets { start 0x0200 [(0x0200, [0x24, 0x10]), (0x0010, [0xF0])] with a := 0x0F }
      (fun t => t.flags.z == true && t.flags.n == true && t.flags.v == true && t.a == 0x0F) = true := by decide +kernel

/-- H9 -/
theorem test_bit_abs :
    stepMeets { start 0x0200 [(0x0200, [0x2C, 0x00, 0x30]), (0x3000, [0x80])] with a := 0xFF, flags := flagsOf false false true false false true false }
      (fun t => t.flags.z == false && t.flags.n == true && t.flags.v == false) = true := by decide +kernel

/-- H13 -/
theorem test_asl_acc :
    stepMeets { start 0x0200 [(0x0200, [0x0A])] with a := 0x40, flags := flagsOf true false true false false false false }
      (fun t => t.a == 0x80 && t.flags.c == false && t.flags.n == true && t.pc == 0x0201) = true := by decide +kernel

/-- H14 -/
theorem test_asl_zp :
    stepMeets { start 0x0200 [(0x0200, [0x06, 0x10]), (0x0010, [0xFF])] with a := 0x05 }
      (fun t => t.readByte 0x0010 == 0xFE && t.flags.c == true && t.flags.n == true && t.a == 0x05) = true := by decide +kernel

/-- H16 -/
theorem test_lsr_acc :
    stepMeets { start 0x0200 [(0x0200, [0x4A])] with a := 0x01, flags := flagsOf false false true false false false true }
      (fun t => t.a == 0x00 && t.flags.c == true && t.flags.z == true && t.flags.n == false) = true := by decide +kernel

/-- H17 -/
theorem test_lsr_abs :
    stepMeets (start 0x0200 [(0x0200, [0x4E, 0x00, 0x30]), (0x3000, [0xFF])])
      (fun t => t.readByte 0x3000 == 0x7F && t.flags.c == true && t.flags.n == false) = true := by decide +kernel

/-- H18 -/
theorem test_rol_acc :
    stepMeets { start 0x0200 [(0x0200, [0x2A])] with a := 0x40, flags := flagsOf true false true false false false false }
      (fun t => t.a == 0x81 && t.flags.c == false && t.flags.n == true) = true := by decide +kernel

/-- H20 -/
theorem test_rol_zpx :
    stepMeets { start 0x0200 [(0x0200, [0x36, 0x10]), (0x0011, [0xFF])] with x := 0x01, flags := flagsOf true false true false false false false }
      (fun t => t.readByte 0x0011 == 0xFF && t.flags.c == true && t.flags.n == true) = true := by decide +kernel

/-- H21 -/
theorem test_ror_acc :
    stepMeets { start 0x0200 [(0x0200, [0x6A])] with a := 0x02, flags := flagsOf true false true false false false false }
      (fun t => t.a == 0x81 && t.flags.c == false && t.flags.n == true) = true := by decide +kernel

/-- H23 -/
theorem test_ror_abx :
    stepMeets { start 0x0200 [(0x0200, [0x7E, 0x00, 0x30]), (0x3002, [0x00])] with x := 0x02, flags := flagsOf true false true false false false false }
      (fun t => t.readByte 0x3002 == 0x80 && t.flags.c == false && t.flags.n == true) = true := by decide +kernel

/-- H24 -/
theorem test_inc_zp :
    stepMeets { start 0x0200 [(0x0200, [0xE6, 0x20]), (0x0020, [0xFF])] with flags := flagsOf true false true false false false false }
      (fun t => t.readByte 0x0020 == 0x00 && t.flags.z == true && t.flags.n == false && t.flags.c == true) = true := by decide +kernel

/-- H26 -/
theorem test_dec_zp :
    stepMeets (start 0x0200 [(0x0200, [0xC6, 0x20]), (0x0020, [0x00])])
      (fun t => t.readByte 0x0020 == 0xFF && t.flags.n == true && t.flags.z == false) = true := by decide +kernel

/-- H28 -/
theorem test_dec_abx :
    stepMeets { start 0x0200 [(0x0200, [0xDE, 0x00, 0x30]), (0x3001, [0x80])] with x := 0x01 }
      (fun t => t.readByte 0x3001 == 0x7F && t.flags.n == false && t.flags.z == false) = true := by decide +kernel

/-- H29 -/
theorem test_inx :
    stepMeets { start 0x0200 [(0x0200, [0xE8])] with x := 0xFF }
      (fun t => t.x == 0x00 && t.flags.z == true && t.flags.n == false) = true := by decide +kernel

/-- H30 -/
theorem test_iny :
    stepMeets { start 0x0200 [(0x0200, [0xC8])] with y := 0x7F }
      (fun t => t.y == 0x80 && t.flags.n == true) = true := by decide +kernel

/-- H31 -/
theorem test_dex :
    stepMeets { start 0x0200 [(0x0200, [0xCA])] with x := 0x00 }
      (fun t => t.x == 0xFF && t.flags.n == true) = true := by decide +kernel

/-- H33 -/
theorem test_dey :
    stepMeets { start 0x0200 [(0x0200, [0x88])] with y := 0x01 }
      (fun t => t.y == 0x00 && t.flags.z == true) = true := by decide +kernel

/-- J11 -/
theorem test_bcc_taken :
    stepMeets (start 0xFFF0 [(0xFFF0, [0x90, 0x7F])])
      (fun t => t.pc == 0x0071) = true := by decide +kernel

/-- J2 -/
theorem test_bcc_not_taken :
    stepMeets { start 0x0200 [(0x0200, [0x90, 0x05])] with flags := flagsOf true false true false false false false }
      (fun t => t.pc == 0x0202) = true := by decide +kernel

/-- J3 -/
theorem test_bcs :
    stepMeets { start 0x0210 [(0x0210, [0xB0, 0xFB])] with flags := flagsOf true false true false false false false }
      (fun t => t.pc == 0x020D) = true := by decide +kernel

/-- J4 -/
theorem test_beq :
    stepMeets { start 0x0300 [(0x0300, [0xF0, 0x02])] with flags := flagsOf false true true false false false false }
      (fun t => t.pc == 0x0304) = true := by decide +kernel

/-- J5 -/
theorem test_bne :
    stepMeets (start 0x020A [(0x020A, [0xD0, 0xF8])])
      (fun t => t.pc == 0x0204) = true := by decide +kernel

/-- J7 -/
theorem test_bmi :
    stepMeets { start 0x0200 [(0x0200, [0x30, 0x7F])] with flags := flagsOf false false true false false false true }
      (fun t => t.pc == 0x0281) = true := by decide +kernel

/-- J12 -/
theorem test_bpl :
    stepMeets (start 0x0000 [(0x0000, [0x10, 0x80])])
      (fun t => t.pc == 0xFF82) = true := by decide +kernel

/-- J9 -/
theorem test_bvc :
    stepMeets (start 0x0200 [(0x0200, [0x50, 0xFE])])
      (fun t => t.pc == 0x0200) = true := by decide +kernel

/-- J10 -/
theorem test_bvs :
    stepMeets { start 0x02F0 [(0x02F0, [0x70, 0x10])] with flags := flagsOf false false true false false true false }
      (fun t => t.pc == 0x0302) = true := by decide +kernel

/-- J13 -/
theorem test_jmp_abs :
    stepMeets (start 0x0200 [(0x0200, [0x4C, 0x00, 0x03])])
      (fun t => t.pc == 0x0300) = true := by decide +kernel

/-- J15 -/
theorem test_jmp_ind_no_page_wrap :
    stepMeets (start 0x0200 [(0x0200, [0x6C, 0xFF, 0x02]), (0x02FF, [0x78]), (0x0300, [0x56])])
      (fun t => t.pc == 0x5678) = true := by decide +kernel

/-- J16 -/
theorem test_jmp_ind_top_of_memory :
    stepMeets (start 0x0200 [(0x0200, [0x6C, 0xFF, 0xFF]), (0xFFFF, [0x21]), (0x0000, [0x43])])
      (fun t => t.pc == 0x4321) = true := by decide +kernel

/-- J18 -/
theorem test_jsr_stack_wraps :
    stepMeets { start 0x0200 [(0x0200, [0x20, 0x00, 0x03])] with sp := 0x00 }
      (fun t => t.readByte 0x0100 == 0x02 && t.readByte 0x01FF == 0x02 && t.sp == 0xFE && t.pc == 0x0300) = true := by decide +kernel

/-- J20 -/
theorem test_rts_stack_wraps :
    stepMeets (start 0x0200 [(0x0200, [0x60]), (0x0100, [0x33]), (0x0101, [0x44])])
      (fun t => t.pc == 0x4434 && t.sp == 0x01) = true := by decide +kernel

/-- J21 -/
theorem test_rts_pc_wraps :
    stepMeets { start 0x0200 [(0x0200, [0x60]), (0x01FE, [0xFF]), (0x01FF, [0xFF])] with sp := 0xFD }
      (fun t => t.pc == 0x0000 && t.sp == 0xFF) = true := by decide +kernel

/-- K1 -/
theorem test_brk :
    stepMeets { start 0x0200 [(0x0200, [0x00]), (0xFFFE, [0x00]), (0xFFFF, [0x04])] with flags := flagsOf true true false false false false false }
      (fun t => t.readByte 0x01FF == 0x02 && t.readByte 0x01FE == 0x02 && t.readByte 0x01FD == 0x33 && t.sp == 0xFC && t.flags == flagsOf true true true false false false false && t.pc == 0x0400 && t.running == false && t.cyc == 7) = true := by decide +kernel

/-- K3 -/
theorem test_brk_top_of_memory :
    stepMeets { start 0xFFFF [(0xFFFF, [0x00])] with straps := { on with haltOnBreak := false } }
      (fun t => t.readByte 0x01FF == 0x00 && t.readByte 0x01FE == 0x01 && t.readByte 0x01FD == 0x34 && t.pc == 0x0000 && t.running == true) = true := by decide +kernel

/-- K4 -/
theorem test_rti :
    stepMeets { start 0x0200 [(0x0200, [0x40]), (0x01FD, [0xC3]), (0x01FE, [0x34]), (0x01FF, [0x12])] with sp := 0xFC }
      (fun t => t.flags == flagsOf true true false false false true true && t.pc == 0x1234 && t.sp == 0xFF) = true := by decide +kernel

/-- K5 -/
theorem test_rti_sets_break :
    stepMeets { start 0x0200 [(0x0200, [0x40]), (0x01FD, [0x30]), (0x01FE, [0x00]), (0x01FF, [0x80])] with sp := 0xFC, flags := flagsOf true false true false false false true }
      (fun t => t.flags == flagsOf false false false false true false false && t.pc == 0x8000) = true := by decide +kernel

/-- K7, S12 -/
theorem test_pha_stack_wraps :
    stepMeets { start 0x0200 [(0x0200, [0x48])] with a := 0xCD, sp := 0x00 }
      (fun t => t.readByte 0x0100 == 0xCD && t.sp == 0xFF) = true := by decide +kernel

/-- K9 -/
theorem test_php :
    stepMeets { start 0x0200 [(0x0200, [0x08])] with flags := flagsOf true true true true false true true }
      (fun t => t.readByte 0x01FF == 0xFF && t.flags.b == false && t.sp == 0xFE) = true := by decide +kernel

/-- K8 -/
theorem test_php_reset_flags :
    stepMeets (start 0x0200 [(0x0200, [0x08])])
      (fun t => t.readByte 0x01FF == 0x34 && t.sp == 0xFE) = true := by decide +kernel

/-- K11 -/
theorem test_pla :
    stepMeets { start 0x0200 [(0x0200, [0x68]), (0x01FF, [0x80])] with sp := 0xFE }
      (fun t => t.a == 0x80 && t.flags.n == true && t.flags.z == false && t.sp == 0xFF) = true := by decide +kernel

/-- K13, S12 -/
theorem test_pla_stack_wraps :
    stepMeets (start 0x0200 [(0x0200, [0x68]), (0x0100, [0x42])])
      (fun t => t.a == 0x42 && t.sp == 0x00) = true := by decide +kernel

/-- K14 -/
theorem test_plp_all :
    stepMeets { start 0x0200 [(0x0200, [0x28]), (0x01FF, [0xFF])] with sp := 0xFE }
      (fun t => t.flags == flagsOf true true true true true true true && t.sp == 0xFF) = true := by decide +kernel

/-- K16 -/
theorem test_plp_some :
    stepMeets { start 0x0200 [(0x0200, [0x28]), (0x01FF, [0xCB])] with sp := 0xFE }
      (fun t => t.flags == flagsOf true true false true false true true) = true := by decide +kernel

/-- K17 -/
theorem test_clc :
    stepMeets { start 0x0200 [(0x0200, [0x18])] with flags := flagsOf true false true false false false false }
      (fun t => t.flags == flagsOf false false true false false false false) = true := by decide +kernel

/-- K18 -/
theorem test_cld :
    stepMeets { start 0x0200 [(0x0200, [0xD8])] with flags := flagsOf false false true true false false false }
      (fun t => t.flags == flagsOf false false true false false false false) = true := by decide +kernel

/-- K19 -/
theorem test_cli :
    stepMeets (start 0x0200 [(0x0200, [0x58])])
      (fun t => t.flags == flagsOf false false false false false false false) = true := by decide +kernel

/-- K20 -/
theorem test_clv :
    stepMeets { start 0x0200 [(0x0200, [0xB8])] with flags := flagsOf false false true false false true false }
      (fun t => t.flags == flagsOf false false true false false false false) = true := by decide +kernel

/-- K21 -/
theorem test_sec :
    stepMeets (start 0x0200 [(0x0200, [0x38])])
      (fun t => t.flags == flagsOf true false true false false false false) = true := by decide +kernel

/-- K22 -/
theorem test_sed :
    stepMeets (start 0x0200 [(0x0200, [0xF8])])
      (fun t => t.flags == flagsOf false false true true false false false) = true := by decide +kernel

/-- K23 -/
theorem test_sei :
    stepMeets { start 0x0200 [(0x0200, [0x78])] with flags := flagsOf false false false false false false false }
      (fun t => t.flags == flagsOf false false true false false false false) = true := by decide +kernel

/-- K24 -/
theorem test_nop :
    stepMeets { start 0x0200 [(0x0200, [0xEA])] with a := 0x01, flags := flagsOf true false true false false false false }
      (fun t => t.a == 0x01 && t.flags == flagsOf true false true false false false false && t.pc == 0x0201 && t.cyc == 2) = true := by decide +kernel

/-- L1 -/
theorem test_unknown_opcode :
    stepMeets (start 0x0200 [(0x0200, [0xFF])])
      (fun t => t.running == false && t.fault == some { byte := 0xFF, pc := 0x0200 } && t.pc == 0x0200 && t.cyc == 0) = true := by decide +kernel

/-- L2 -/
theorem test_unknown_opcode_02 :
    stepMeets { start 0x0200 [(0x0200, [0x02])] with a := 0x07 }
      (fun t => t.running == false && t.fault == some { byte := 0x02, pc := 0x0200 } && t.pc == 0x0200 && t.a == 0x07) = true := by decide +kernel

/-- P3, iteration 2 -/
theorem test_irq_serviced :
    stepMeets { start 0x0201 [(0x0201, [0xE6, 0x20]), (0x0400, [0xE6]), (0x0401, [0x21]), (0xFFFE, [0x00]), (0xFFFF, [0x04]), (0xFFFA, [0x00]), (0xFFFB, [0x05]), (0x0500, [0xE6]), (0x0501, [0x22])] with flags := flagsOf false false false false false false false, irqPending := true }
      (fun t => t.readByte 0x01FF == 0x02 && t.readByte 0x01FE == 0x01 && t.readByte 0x01FD == 0x20 && t.flags == flagsOf false false true false false false false && t.pc == 0x0402 && t.irqPending == false && t.readByte 0x0021 == 0x01 && t.sp == 0xFC && t.cyc == 5) = true := by decide +kernel

/-- P3, iteration 1 -/
theorem test_irq_held :
    stepMeets { start 0x0200 [(0x0200, [0x58]), (0x0400, [0xE6]), (0x0401, [0x21]), (0xFFFE, [0x00]), (0xFFFF, [0x04]), (0xFFFA, [0x00]), (0xFFFB, [0x05]), (0x0500, [0xE6]), (0x0501, [0x22])] with irqPending := true }
      (fun t => t.flags == flagsOf false false false false false false false && t.pc == 0x0201 && t.irqPending == true) = true := by decide +kernel

/-- P3, iteration 6 -/
theorem test_nmi_before_irq :
    stepMeets { start 0x0201 [(0x0201, [0xE6, 0x20]), (0x0400, [0xE6]), (0x0401, [0x21]), (0xFFFE, [0x00]), (0xFFFF, [0x04]), (0xFFFA, [0x00]), (0xFFFB, [0x05]), (0x0500, [0xE6]), (0x0501, [0x22])] with flags := flagsOf false false false false false false false, irqPending := true, nmiPending := true }
      (fun t => t.readByte 0x01FD == 0x20 && t.flags == flagsOf false false true false false false false && t.pc == 0x0502 && t.irqPending == true && t.nmiPending == false && t.readByte 0x0022 == 0x01) = true := by decide +kernel

/-- P7, iteration 8 -/
theorem test_stop_request :
    stepMeets { start 0x0201 [(0x0201, [0x4C, 0x00, 0x02])] with x := 0x04, stopReq := true }
      (fun t => t.running == false && t.x == 0x04 && t.pc == 0x0201 && t.cyc == 0 && t.fault == none) = true := by decide +kernel

/-- P5: the reset vector points at the byte 0xFF. -/
theorem test_reset_vector_at_unknown_byte :
    stepMeets (State.resetOver on (image [(0xFFFC, [0x34, 0x12]), (0x1234, [0xFF])]))
      (fun t => t.running == false && t.fault == some { byte := 0xFF, pc := 0x1234 } && t.pc == 0x1234 && t.cyc == 0) = true := by
  decide +kernel

/-- P7, iteration 8, the request made by the environment (60_exceptions.md R206). -/
theorem test_requested_stop_halts_the_next_step :
    stepMeets ((start 0x0201 [(0x0201, [0x4C, 0x00, 0x02])]).envAct .requestStop)
      (fun t => t.running == false && t.pc == 0x0201 && t.cyc == 0) = true := by decide +kernel

/-- A placed word runs as the first instruction after reset (log entry 13). -/
theorem test_placed_word_after_reset :
    stepMeets (State.reset.withFetchWord 16 0x80A9) (fun t => t.a == 0x80 && t.pc == 0x0002 && t.cyc == 2) = true := by
  decide +kernel

/-- A JSR whose own operand bytes lie where it pushes jumps to the pushed bytes (44_control_flow.md R171). -/
theorem test_jsr_over_its_own_operand :
    stepMeets { start 0x01FD [(0x01FD, [0x20, 0x34, 0x12])] with sp := 0xFF }
      (fun t => t.pc == 0x01FF && t.readByte 0x01FE == 0xFF && t.readByte 0x01FF == 0x01) = true := by decide +kernel

/-! ## Witnesses: for every obligation with hypotheses, a state and operands that meet them -/

/-- A running state with `CLD` (no operands) at 0x0200. -/
def calm : State := start 0x0200 [(0x0200, [0xD8])]

theorem calm_iterates : Iterates calm := ⟨rfl, rfl⟩

/-- A decimal state: `D` set, the strap on. -/
def decimal : State := { calm with flags := flagsOf true false false true false false false }

theorem witness_DecoderRejectsExactlyTheListedBytes :
    (0x02 : Byte) ∈ illegalOpcodes ∧ (0xFF : Byte) ∈ illegalOpcodes ∧ (0x00 : Byte) ∉ illegalOpcodes ∧
      (0xFE : Byte) ∉ illegalOpcodes := by decide

theorem witness_DecodingDropsNoBit :
    decode 0xBD 0xFF 0x12 = .ok (.ldaAbx 0x12FF) ∧ decode 0x00 0x34 0x12 = .ok .brk ∧ decode 0xFE 0xFF 0xFF = .ok (.incAbx 0xFFFF) :=
  ⟨rfl, rfl, rfl⟩

theorem witness_MemWriteReplacesOneByte : (0xFFFF : Addr) ≠ 0x0000 ∧ (0xFFFF : Addr) ≠ 0xFFFE := by decide

theorem witness_CanonicalMemoriesReadingAlikeAreEqual :
    Memory.wf [(0x0000, 0x01), (0xFFFF, 0xFF)] ∧
      ∀ a : Addr, Memory.read [(0x0000, 0x01), (0xFFFF, 0xFF)] a = Memory.read [(0x0000, 0x01), (0xFFFF, 0xFF)] a :=
  ⟨by decide, fun _ => rfl⟩

theorem witness_PushAndPullWrapInPageOne :
    (0x0100 : Addr).toNat = 0x0100 + ({ calm with sp := 0x00 } : State).sp.toNat ∧
    (0x01FF : Addr).toNat = 0x0100 + calm.sp.toNat ∧
    (0x0100 : Addr).toNat = 0x0100 + calm.pulled.sp.toNat ∧
    (0x01FF : Addr).toNat = 0x0100 + ({ calm with sp := 0xFE } : State).pulled.sp.toNat := by decide +kernel

theorem witness_EffectiveAddressesFollowTheFormats :
    ((0x00FF : Addr).toNat = ((0xFE : Byte).toNat + ({ calm with x := 1 } : State).x.toNat) % 256 ∧
      (0x0000 : Addr).toNat = ((0x00FF : Addr).toNat + 1) % 256) ∧
    ((0x00FF : Addr).toNat = (0xFF : Byte).toNat ∧ (0x0000 : Addr).toNat = ((0x00FF : Addr).toNat + 1) % 256) ∧
    ((0x0000 : Addr).toNat = (0x00 : Byte).toNat ∧ (0x0001 : Addr).toNat = ((0x0000 : Addr).toNat + 1) % 256) ∧
    (0x0000 : Addr).toNat = ((0xFFFF : Addr).toNat + 1) % 65536 := by decide +kernel

theorem witness_AdcTakesThePathOfDAndWritesItsResult :
    decimalPath decimal ∧ ¬ decimalPath calm ∧ ¬ decimalPath { decimal with straps := { on with decimalEnable := false } } :=
  ⟨⟨rfl, rfl⟩, fun h => Bool.noConfusion h.1, fun h => Bool.noConfusion h.2⟩

theorem witness_AdcDecimalWrapsAtOneHundred :
    (IsBcd 0x99 ∧ IsBcd 0x00) ∧ ¬ (IsBcd 0x9A ∧ IsBcd 0x00) ∧ ¬ (IsBcd 0x99 ∧ IsBcd 0xA0) := by
  decide

theorem witness_SbcDecimalBorrowsBelowZero :
    (IsBcd 0x00 ∧ IsBcd 0x99) ∧ ¬ (IsBcd 0x0A ∧ IsBcd 0x00) ∧ ¬ (IsBcd 0x00 ∧ IsBcd 0xFF) := by
  decide

theorem witness_SbcSubtractsWithBorrow : decimalPath decimal ∧ ¬ decimalPath calm :=
  ⟨⟨rfl, rfl⟩, fun h => Bool.noConfusion h.1⟩

theorem witness_StoresWriteOneByteAndNoFlag : (0x1233 : Addr) ≠ calm.eaAbs 0x1234 := by decide +kernel

theorem witness_SbcUndoesAdc : ¬ decimalPath calm ∧ calm.flags.c = false := ⟨fun h => Bool.noConfusion h.1, rfl⟩

theorem witness_BranchesGoByTheirFlag :
    calm.flags = flagsOf false false true false false false false ∧
      ({ calm with flags := flagsOf true true true false false true true } : State).flags =
        flagsOf true true true false false true true := ⟨rfl, rfl⟩

/-- A JSR whose operand lies in the instruction stream and the pushes overwrite it; one whose operand is out of reach. -/
theorem witness_JsrPushesItsLastByteAndJumps :
    ((start 0x01FD [(0x01FD, [0x20, 0x34, 0x12])]).readByte 0x01FE = loByte 0x1234 ∧
      (start 0x01FD [(0x01FD, [0x20, 0x34, 0x12])]).readByte 0x01FF = hiByte 0x1234) ∧
    (((start 0x01FF [(0x01FF, [0x20, 0x34, 0x12])]).readByte 0x0200 = loByte 0x1234 ∧
      (start 0x01FF [(0x01FF, [0x20, 0x34, 0x12])]).readByte 0x0201 = hiByte 0x1234) ∧
      ∀ k : Byte, k = (0xFF : Byte) ∨ k = (0xFF : Byte) - 1 →
        (0x0200 : Addr) ≠ State.stackAddr k ∧ (0x0201 : Addr) ≠ State.stackAddr k) ∧
    (0x0200 : Addr) ≠ State.stackAddr calm.sp := by
  decide +kernel

theorem witness_PushesStoreAOrTheStatus : (0x0000 : Addr) ≠ State.stackAddr calm.sp := by decide +kernel

theorem witness_NopMovesOnlyThePc :
    Iterates (start 0x0200 [(0x0200, [0xEA])]) ∧
      (start 0x0200 [(0x0200, [0xEA])]).interruptCheck = start 0x0200 [(0x0200, [0xEA])] ∧
      (start 0x0200 [(0x0200, [0xEA])]).readByte (start 0x0200 [(0x0200, [0xEA])]).pc = 0xEA :=
  ⟨⟨rfl, rfl⟩, rfl, by decide +kernel⟩

theorem witness_StepRunsTheDecodedInstruction :
    Iterates calm ∧ calm.interruptCheck = calm ∧
      decode (calm.readByte calm.pc) (calm.readByte (calm.pc + 1)) (calm.readByte (calm.pc + 2)) = .ok .cld ∧
      ∃ t, exec .cld calm = .next t := ⟨calm_iterates, rfl, rfl, _, rfl⟩

theorem witness_HaltedDoesNothingAndStopHalts :
    ({ calm with running := false } : State).running = false ∧
    ({ calm with stopReq := true } : State).running = true ∧ ({ calm with stopReq := true } : State).stopReq = true ∧
    EnvAction.requestIrq ≠ .applyReset := by decide +kernel

theorem witness_UnknownOpcodeHaltsPrecisely :
    (Iterates (start 0xFFFF [(0xFFFF, [0xFF])]) ∧
      (start 0xFFFF [(0xFFFF, [0xFF])]).interruptCheck = start 0xFFFF [(0xFFFF, [0xFF])] ∧
      (start 0xFFFF [(0xFFFF, [0xFF])]).readByte (start 0xFFFF [(0xFFFF, [0xFF])]).pc ∈ illegalOpcodes) ∧
    (start 0x0000 [(0x0000, [0x02])]).readByte (start 0x0000 [(0x0000, [0x02])]).pc ∈ illegalOpcodes :=
  ⟨⟨⟨rfl, rfl⟩, rfl, by decide +kernel⟩, by decide +kernel⟩

/-- A requested NMI with an IRQ; an IRQ alone with `I` clear; an IRQ held by `I`; nothing requested. -/
theorem witness_InterruptsAreTakenBeforeTheFetch :
    (Iterates calm ∧ ({ calm with nmiPending := true, irqPending := true } : State).nmiPending = true) ∧
    (Iterates { decimal with irqPending := true } ∧ decimal.nmiPending = false ∧ decimal.flags.i = false) ∧
    (calm.nmiPending = false ∧ calm.flags.i = true ∧ ({ calm with irqPending := true } : State).irqPending = true) ∧
    calm.irqPending = false := by
  refine ⟨⟨⟨rfl, rfl⟩, rfl⟩, ⟨⟨rfl, rfl⟩, rfl, rfl⟩, ⟨rfl, rfl, rfl⟩, rfl⟩

theorem calm_steps : ∃ t, step calm = .next t := ⟨_, rfl⟩

/-- A step that executes an instruction, and one that does not. -/
theorem witness_CyclesAreChargedPerExecutedInstruction :
    (∃ t, step calm = .next t) ∧
    (Iterates calm ∧ calm.interruptCheck.readByte calm.interruptCheck.pc ∉ illegalOpcodes) ∧
    (step { calm with running := false } = .next { calm with running := false } ∧
      ¬ Iterates { calm with running := false }) :=
  ⟨calm_steps, ⟨calm_iterates, by decide +kernel⟩, ⟨rfl, fun h => Bool.noConfusion h.1⟩⟩

theorem witness_DefaultBaseCyclesAreTheTable :
    on.cycleExceptions = [] ∧
    ({ on with cycleExceptions := [(0xEA, 3)] } : Straps).cycleExceptions = ((0xEA : Byte).toNat, 3) :: [] := ⟨rfl, rfl⟩

theorem witness_ARunEndsByOneOfThreeCauses :
    calm.running = true ∧ calm.fault = none ∧ ∃ t, step calm = .next t := ⟨rfl, rfl, calm_steps⟩

theorem witness_LatchesAreSetByRequestsAndClearedByService :
    (Iterates calm ∧ ∃ t, step calm = .next t) ∧
      (¬ Iterates { calm with running := false } ∧ ∃ t, step { calm with running := false } = .next t) :=
  ⟨⟨calm_iterates, calm_steps⟩, fun h => Bool.noConfusion h.1, _, rfl⟩

theorem witness_PcAdvancesByTheLength :
    (Instr.incAbx 0xFFFF).mnemonic ∉ controlMnemonics ∧ Instr.nop.mnemonic ∉ controlMnemonics := by decide

/-- A next state of an instruction outside every list of writers. -/
theorem witness_RegistersHaveOnlyTheirWriters :
    (∃ t, exec .nop calm = .next t) ∧
    Instr.nop.mnemonic ∉ ([.adc, .sbc, .and, .ora, .eor, .asl, .lsr, .rol, .ror, .lda, .pla, .txa, .tya] : List Mnemonic) ∧
    Instr.nop.mnemonic ∉ ([.ldx, .tax, .tsx, .inx, .dex] : List Mnemonic) ∧
    Instr.nop.mnemonic ∉ ([.ldy, .tay, .iny, .dey] : List Mnemonic) ∧
    Instr.nop.mnemonic ∉ ([.pha, .php, .pla, .plp, .jsr, .rts, .brk, .rti, .txs] : List Mnemonic) :=
  ⟨⟨_, rfl⟩, by decide, by decide, by decide, by decide⟩

theorem witness_FlagsHaveOnlyTheirWriters :
    (∃ t, exec .tax calm = .next t) ∧ (∃ t, exec (.staZp 0xFF) calm = .next t) ∧
    Instr.tax.mnemonic ∉ ([.adc, .sbc, .cmp, .cpx, .cpy, .asl, .lsr, .rol, .ror, .clc, .sec, .plp, .rti] : List Mnemonic) ∧
    (Instr.staZp 0xFF).mnemonic ∉ ([.lda, .ldx, .ldy, .tax, .tay, .tsx, .txa, .tya, .pla, .adc, .sbc, .and, .ora, .eor,
      .asl, .lsr, .rol, .ror, .inc, .dec, .inx, .iny, .dex, .dey, .cmp, .cpx, .cpy, .bit, .plp, .rti] : List Mnemonic) ∧
    Instr.tax.mnemonic ∉ ([.sei, .cli, .brk, .plp, .rti] : List Mnemonic) ∧
    Instr.tax.mnemonic ∉ ([.sed, .cld, .plp, .rti] : List Mnemonic) ∧
    Instr.tax.mnemonic ∉ ([.plp, .rti] : List Mnemonic) ∧
    Instr.tax.mnemonic ∉ ([.adc, .sbc, .bit, .clv, .plp, .rti] : List Mnemonic) :=
  ⟨⟨_, rfl⟩, ⟨_, rfl⟩, by decide, by decide, by decide, by decide, by decide, by decide⟩

theorem witness_MemoryHasOnlyItsWriters :
    (∃ t, exec (.ldaZp 0xFF) calm = .next t) ∧ (∃ t, exec .aslAcc calm = .next t) ∧ (∃ t, exec .pha calm = .next t) ∧
    (Instr.ldaZp 0xFF).mnemonic ∉
      ([.sta, .stx, .sty, .inc, .dec, .asl, .lsr, .rol, .ror, .pha, .php, .jsr, .brk] : List Mnemonic) ∧
    Instr.aslAcc.mode = .acc ∧ Instr.pha.mnemonic ∈ ([.pha, .php, .jsr, .brk] : List Mnemonic) ∧
    (0x00FF : Addr).toNat / 256 ≠ 1 ∧ (0x0200 : Addr).toNat / 256 ≠ 1 :=
  ⟨⟨_, rfl⟩, ⟨_, rfl⟩, ⟨_, rfl⟩, by decide, rfl, by decide, by decide, by decide⟩

theorem witness_InstructionsLeaveTheLatchesAlone :
    ∃ t, exec .nop calm = .next t ∧ Instr.nop.mnemonic ≠ .brk ∧ t.running = true := ⟨_, rfl, by decide, rfl⟩

theorem witness_ResetVectorAtAnUnknownByteHaltsAtOnce :
    (image [(0xFFFC, [0x34, 0x12]), (0x1234, [0xFF])]).read
      (wordOf ((image [(0xFFFC, [0x34, 0x12]), (0x1234, [0xFF])]).read 0xFFFC)
        ((image [(0xFFFC, [0x34, 0x12]), (0x1234, [0xFF])]).read 0xFFFD)) = 0xFF := by decide +kernel

/-- The word of a three-byte and of a one-byte instruction, and a next state for the placed one. -/
theorem witness_APlacedWordIsTheNextInstruction :
    (∀ k, k < (Instr.ldaAbs 0x1234).length →
      (encode (.ldaAbs 0x1234))[k]? = some (tableByte (8 * (Instr.ldaAbs 0x1234).length) 0x1234AD k)) ∧
    (∀ k, k < Instr.nop.length → (encode .nop)[k]? = some (tableByte (8 * Instr.nop.length) 0xEA k)) ∧
    ∃ t, exec .nop (calm.withFetchWord (8 * Instr.nop.length) 0xEA) = .next t :=
  ⟨by decide +kernel, by decide +kernel, _, rfl⟩

/-- A canonical image with a byte at each end of memory. -/
theorem witness_ResetMeetsTheInvariant : Memory.wf [(0x0000, 0x01), (0xFFFF, 0xFF)] := by decide

theorem calm_inv : calm.Inv := ⟨by decide +kernel, fun _ h => nomatch h⟩

theorem witness_EveryStepKeepsTheInvariant : calm.Inv ∧ ∃ t, step calm = .next t := ⟨calm_inv, calm_steps⟩

/-- A reachable state, and a reachable one that has faulted: the reset vector points at the byte 0xFF. -/
theorem witness_EveryReachableStateMeetsTheInvariant :
    Reachable State.reset ∧ ∃ t, Reachable t ∧ t.fault ≠ none :=
  ⟨.powerOn _ _ (by decide),
    { State.resetOver on [(0x0000, 0xFF)] with running := false, fault := some { byte := 0xFF, pc := 0x0000 } },
    .step _ _ (.powerOn on [(0x0000, 0xFF)] (by decide)) rfl, fun h => nomatch h⟩

end Sys2Proof.Tests
end

section
/-! The factorisation of `exec`: an instruction is its mnemonic's operation on the operand its format designates
(40_sequencer_addressing.md R84, R101 to R103). With it a statement about all 151 instructions is a case split on the
56 mnemonics. -/

namespace Sys2Proof

open Sys2Proof.Machine

/-- The operand of an instruction: its format (30_encoding.md R61) with the operand bytes the format carries. -/
inductive Operand where
  | imp
  | acc
  | imm (v : Byte)
  | zp (z : Byte)
  | zpx (z : Byte)
  | zpy (z : Byte)
  | abs (a : Addr)
  | abx (a : Addr)
  | aby (a : Addr)
  | izx (z : Byte)
  | izy (z : Byte)
  | ind (a : Addr)
  | rel (r : Byte)

/-- The format of an operand. -/
def Operand.mode : Operand → Mode
  | .imp => .imp
  | .acc => .acc
  | .imm _ => .imm
  | .zp _ => .zp
  | .zpx _ => .zpx
  | .zpy _ => .zpy
  | .abs _ => .abs
  | .abx _ => .abx
  | .aby _ => .aby
  | .izx _ => .izx
  | .izy _ => .izy
  | .ind _ => .ind
  | .rel _ => .rel

/-- The effective address an operand designates (R89 to R97); 0 for a format that has none. -/
def Operand.ea (p : Operand) (s : State) : Addr :=
  match p with
  | .imp | .acc | .imm _ | .rel _ => 0
  | .zp z => s.eaZp z
  | .zpx z => s.eaZpx z
  | .zpy z => s.eaZpy z
  | .abs a => s.eaAbs a
  | .abx a => s.eaAbx a
  | .aby a => s.eaAby a
  | .izx z => s.eaIzx z
  | .izy z => s.eaIzy z
  | .ind a => s.eaInd a

/-- The byte an operand designates (R101): the accumulator, the byte in the instruction, or the byte in memory. -/
def Operand.value (p : Operand) (s : State) : Byte :=
  match p with
  | .acc => s.a
  | .imm v | .rel v => v
  | _ => s.readByte (p.ea s)

/-- The operand of each instruction. -/
def Instr.operand : Instr → Operand
  | .aslAcc | .lsrAcc | .rolAcc | .rorAcc => .acc
  | .ldaImm v | .ldxImm v | .ldyImm v | .adcImm v | .sbcImm v | .cmpImm v | .cpxImm v | .cpyImm v
  | .andImm v | .oraImm v | .eorImm v => .imm v
  | .ldaZp z | .ldxZp z | .ldyZp z | .staZp z | .stxZp z | .styZp z | .adcZp z | .sbcZp z | .cmpZp z | .cpxZp z
  | .cpyZp z | .andZp z | .oraZp z | .eorZp z | .bitZp z | .aslZp z | .lsrZp z | .rolZp z | .rorZp z | .incZp z
  | .decZp z => .zp z
  | .ldaZpx z | .ldyZpx z | .staZpx z | .styZpx z | .adcZpx z | .sbcZpx z | .cmpZpx z | .andZpx z | .oraZpx z
  | .eorZpx z | .aslZpx z | .lsrZpx z | .rolZpx z | .rorZpx z | .incZpx z | .decZpx z => .zpx z
  | .ldxZpy z | .stxZpy z => .zpy z
  | .ldaAbs a | .ldxAbs a | .ldyAbs a | .staAbs a | .stxAbs a | .styAbs a | .adcAbs a | .sbcAbs a | .cmpAbs a
  | .cpxAbs a | .cpyAbs a | .andAbs a | .oraAbs a | .eorAbs a | .bitAbs a | .aslAbs a | .lsrAbs a | .rolAbs a
  | .rorAbs a | .incAbs a | .decAbs a | .jmpAbs a | .jsr a => .abs a
  | .ldaAbx a | .ldyAbx a | .staAbx a | .adcAbx a | .sbcAbx a | .cmpAbx a | .andAbx a | .oraAbx a | .eorAbx a
  | .aslAbx a | .lsrAbx a | .rolAbx a | .rorAbx a | .incAbx a | .decAbx a => .abx a
  | .ldaAby a | .ldxAby a | .staAby a | .adcAby a | .sbcAby a | .cmpAby a | .andAby a | .oraAby a | .eorAby a => .aby a
  | .ldaIzx z | .staIzx z | .adcIzx z | .sbcIzx z | .cmpIzx z | .andIzx z | .oraIzx z | .eorIzx z => .izx z
  | .ldaIzy z | .staIzy z | .adcIzy z | .sbcIzy z | .cmpIzy z | .andIzy z | .oraIzy z | .eorIzy z => .izy z
  | .jmpInd a => .ind a
  | .bcc r | .bcs r | .beq r | .bne r | .bmi r | .bpl r | .bvc r | .bvs r => .rel r
  | _ => .imp

/-- The operand has the format the opcode table gives the instruction. -/
theorem Instr.operand_mode (i : Instr) : i.operand.mode = i.mode := by cases i <;> rfl

/-- The accumulator format is one operand. -/
theorem Operand.eq_acc_of_mode {p : Operand} (h : p.mode = .acc) : p = .acc := by
  cases p <;> cases h
  rfl

/-- Only the shifts have an accumulator form. -/
theorem Instr.mnemonic_of_operand_acc {i : Instr} (h : i.operand = .acc) :
    i.mnemonic ∈ ([.asl, .lsr, .rol, .ror] : List Mnemonic) := by
  cases i <;> cases h <;> decide

namespace Machine

/-- Write a shifted byte back to the operand it was read from, and the flags (43_logic_shift_incdec.md R144 to R147). -/
def State.putShift (s : State) (p : Operand) (r : Byte × Bool) : State :=
  match p with
  | .acc => s.putShiftA r
  | _ => s.putShiftMem (p.ea s) r

/-- The effect of a mnemonic on the operand, before `PC` is moved past an instruction that does not write it. -/
def operate (k : Mnemonic) (p : Operand) (s : State) : State :=
  match k with
  | .lda => (s.setA (p.value s)).setZN (p.value s)
  | .ldx => (s.setX (p.value s)).setZN (p.value s)
  | .ldy => (s.setY (p.value s)).setZN (p.value s)
  | .sta => s.writeByte (p.ea s) s.a
  | .stx => s.writeByte (p.ea s) s.x
  | .sty => s.writeByte (p.ea s) s.y
  | .tax => (s.setX s.a).setZN s.a
  | .tay => (s.setY s.a).setZN s.a
  | .tsx => (s.setX s.sp).setZN s.sp
  | .txa => (s.setA s.x).setZN s.x
  | .txs => s.setSp s.x
  | .tya => (s.setA s.y).setZN s.y
  | .adc => s.setAlu (aluAdc s.decimalMode s.a (p.value s) s.flags.c)
  | .sbc => s.setAlu (aluSbc s.decimalMode s.a (p.value s) s.flags.c)
  | .cmp => s.setFlags (s.flags.compare s.a (p.value s))
  | .cpx => s.setFlags (s.flags.compare s.x (p.value s))
  | .cpy => s.setFlags (s.flags.compare s.y (p.value s))
  | .and => (s.setA (s.a &&& p.value s)).setZN (s.a &&& p.value s)
  | .ora => (s.setA (s.a ||| p.value s)).setZN (s.a ||| p.value s)
  | .eor => (s.setA (s.a ^^^ p.value s)).setZN (s.a ^^^ p.value s)
  | .bit => s.setFlags (s.flags.bitTest s.a (p.value s))
  | .asl => s.putShift p (aslByte (p.value s))
  | .lsr => s.putShift p (lsrByte (p.value s))
  | .rol => s.putShift p (rolByte s.flags.c (p.value s))
  | .ror => s.putShift p (rorByte s.flags.c (p.value s))
  | .inc => s.putCount (p.ea s) (p.value s + 1)
  | .dec => s.putCount (p.ea s) (p.value s - 1)
  | .inx => (s.setX (s.x + 1)).setZN (s.x + 1)
  | .iny => (s.setY (s.y + 1)).setZN (s.y + 1)
  | .dex => (s.setX (s.x - 1)).setZN (s.x - 1)
  | .dey => (s.setY (s.y - 1)).setZN (s.y - 1)
  | .bcc => s.branch (!s.flags.c) (p.value s)
  | .bcs => s.branch s.flags.c (p.value s)
  | .beq => s.branch s.flags.z (p.value s)
  | .bne => s.branch (!s.flags.z) (p.value s)
  | .bmi => s.branch s.flags.n (p.value s)
  | .bpl => s.branch (!s.flags.n) (p.value s)
  | .bvc => s.branch (!s.flags.v) (p.value s)
  | .bvs => s.branch s.flags.v (p.value s)
  | .jmp => s.setPc (p.ea s)
  | .jsr => (s.pushWord s.jsrReturn).setPc (s.jsrTarget (p.ea s))
  | .rts => s.pulled.pulled.setPc (s.pullWord + 1)
  | .pha => s.push s.a
  | .php => s.push (s.flags.pack true)
  | .pla => (s.pulled.setA s.pullByte).setZN s.pullByte
  | .plp => s.pulled.setFlags (Flags.unpack s.pullByte)
  | .clc => s.setFlags { s.flags with c := false }
  | .cld => s.setFlags { s.flags with d := false }
  | .cli => s.setFlags { s.flags with i := false }
  | .clv => s.setFlags { s.flags with v := false }
  | .sec => s.setFlags { s.flags with c := true }
  | .sed => s.setFlags { s.flags with d := true }
  | .sei => s.setFlags { s.flags with i := true }
  | .nop => s
  | .brk => (s.enterInterrupt (s.pc + Config.brkPushOffset) true vecIrq).haltIf s.straps.haltOnBreak
  | .rti => s.returnFromInterrupt

/-- The whole of an instruction: its effect, and `PC` moved on unless the effect has set it (R85). -/
def complete (k : Mnemonic) (p : Operand) (s : State) : State :=
  if k ∈ Stated.controlMnemonics then operate k p s else (operate k p s).advance p.mode

/-- Every instruction is its mnemonic's operation on its operand. -/
theorem exec_eq_complete (i : Instr) (s : State) : exec i s = .next (complete i.mnemonic i.operand s) := by
  cases i <;> rfl

end Machine

end Sys2Proof
end

section
/-! The rules of `operate`: what the shared parts of the operations leave unchanged, and that an instruction answers
what its mnemonic's operation leaves, but for `PC`. -/

namespace Sys2Proof.Machine

/-- A branch moves `PC` and nothing else (44_control_flow.md R160). -/
theorem State.branch_eq_setPc (s : State) (c : Bool) (r : Byte) :
    s.branch c r = s.setPc (if c then s.branchTarget r else s.pc + BitVec.ofNat 16 Mode.rel.length) := by
  unfold State.branch
  split <;> rfl

namespace State

variable (s : State) (p : Operand) (r : Byte × Bool)

@[simp] theorem putShift_x : (s.putShift p r).x = s.x := by cases p <;> rfl
@[simp] theorem putShift_y : (s.putShift p r).y = s.y := by cases p <;> rfl
@[simp] theorem putShift_sp : (s.putShift p r).sp = s.sp := by cases p <;> rfl
@[simp] theorem putShift_flags : (s.putShift p r).flags = s.flags.setShift r := by cases p <;> rfl
@[simp] theorem putShift_running : (s.putShift p r).running = s.running := by cases p <;> rfl
@[simp] theorem putShift_irqPending : (s.putShift p r).irqPending = s.irqPending := by cases p <;> rfl
@[simp] theorem putShift_nmiPending : (s.putShift p r).nmiPending = s.nmiPending := by cases p <;> rfl
@[simp] theorem putShift_stopReq : (s.putShift p r).stopReq = s.stopReq := by cases p <;> rfl
@[simp] theorem putShift_fault : (s.putShift p r).fault = s.fault := by cases p <;> rfl
@[simp] theorem putShift_cyc : (s.putShift p r).cyc = s.cyc := by cases p <;> rfl
@[simp] theorem putShift_straps : (s.putShift p r).straps = s.straps := by cases p <;> rfl

end State

/-- What an instruction answers: the state its mnemonic's operation leaves, but for `PC`. -/
theorem exec_next {i : Instr} {s t : State} (h : exec i s = .next t) :
    ∃ target, t = (operate i.mnemonic i.operand s).setPc target := by
  rw [exec_eq_complete] at h
  cases h
  unfold complete
  split
  · exact ⟨_, rfl⟩
  · exact ⟨_, rfl⟩

/-- A shift in its accumulator form does not touch memory. -/
theorem operate_acc_mem {k : Mnemonic} (s : State) (hk : k ∈ ([.asl, .lsr, .rol, .ror] : List Mnemonic)) :
    (operate k .acc s).mem = s.mem := by
  simp only [List.mem_cons, List.not_mem_nil, or_false] at hk
  rcases hk with rfl | rfl | rfl | rfl <;> rfl

/-- What the pushing instructions write is in page 1 (20_memory.md R52). -/
theorem operate_readByte_of_pushes {k : Mnemonic} (p : Operand) (s : State) {a : Addr} (ha : hiByte a ≠ 1)
    (hk : k ∈ ([.pha, .php, .jsr, .brk] : List Mnemonic)) : (operate k p s).readByte a = s.readByte a := by
  simp only [List.mem_cons, List.not_mem_nil, or_false] at hk
  rcases hk with rfl | rfl | rfl | rfl
  · simp [operate, State.ne_stackAddr ha]
  · simp [operate, State.ne_stackAddr ha]
  · simp [operate, State.pushWord_readByte, State.ne_stackAddr ha]
  · simp [operate, State.pushFrame_readByte_outside s _ _ ha]

end Sys2Proof.Machine
end

section
/-! Who writes what (10_state.md R10 to R25): each of the 56 operations is read off, field by field. -/

open Sys2Proof.Machine Sys2Proof.Machine.State

namespace Sys2Proof

/-- Settles O48, by the 56 operations; the `PC` that `exec_next` leaves open is none of these registers. -/
theorem registersHaveOnlyTheirWriters : Obligations.RegistersHaveOnlyTheirWriters := by
  unfold Obligations.RegistersHaveOnlyTheirWriters
  intro i s t h
  obtain ⟨target, rfl⟩ := exec_next h
  cases i.mnemonic <;> simp [operate, branch_eq_setPc]

/-- Settles O49, by the 56 operations. -/
theorem flagsHaveOnlyTheirWriters : Obligations.FlagsHaveOnlyTheirWriters := by
  unfold Obligations.FlagsHaveOnlyTheirWriters
  intro i s t h
  obtain ⟨target, rfl⟩ := exec_next h
  cases i.mnemonic <;> simp [operate, branch_eq_setPc]

/-- Settles O50: the unlisted operations one by one, the accumulator forms through their mnemonics, and the pushes by
where the stack lies. -/
theorem memoryHasOnlyItsWriters : Obligations.MemoryHasOnlyItsWriters := by
  unfold Obligations.MemoryHasOnlyItsWriters
  intro i s t h
  obtain ⟨target, rfl⟩ := exec_next h
  refine ⟨?_, fun hm => ?_, fun hk a ha => ?_⟩
  · cases i.mnemonic <;> simp [operate, branch_eq_setPc]
  · have hp : i.operand = .acc := Operand.eq_acc_of_mode (i.operand_mode.trans hm)
    rw [hp]
    exact operate_acc_mem s (Instr.mnemonic_of_operand_acc hp)
  · have hpage : hiByte a ≠ 1 := fun h1 => ha (by rw [← hiByte_toNat, h1]; rfl)
    exact operate_readByte_of_pushes _ s hpage hk

/-- Settles O51, by the 56 operations; BRK's clearing of `RUNNING` is `haltIf`'s conjunction. -/
theorem instructionsLeaveTheLatchesAlone : Obligations.InstructionsLeaveTheLatchesAlone := by
  unfold Obligations.InstructionsLeaveTheLatchesAlone
  intro i s t h
  obtain ⟨target, rfl⟩ := exec_next h
  cases i.mnemonic <;> simp +contextual [operate, branch_eq_setPc]

end Sys2Proof
end

section
/-! The pending latches along an iteration (40_sequencer_addressing.md R80 to R82): the interrupt check alone clears
them. -/

open Sys2Proof.Machine Sys2Proof.Machine.State

namespace Sys2Proof

/-- Fetch, execution and accounting leave both latches. -/
theorem Machine.runInstruction_latches {s t : State} (h : runInstruction s = .next t) :
    t.nmiPending = s.nmiPending ∧ t.irqPending = s.irqPending := by
  obtain ⟨e, -, rfl⟩ | ⟨i, u, -, hu, rfl⟩ := runInstruction_cases h
  · exact ⟨rfl, rfl⟩
  · obtain ⟨hirq, hnmi, -⟩ := instructionsLeaveTheLatchesAlone i s u hu
    exact ⟨hnmi, hirq⟩

/-- After the interrupt check no NMI is pending, and an IRQ only where `I` or an NMI held it off. -/
theorem Machine.State.interruptCheck_latches (s : State) : s.interruptCheck.nmiPending = false ∧
    (s.interruptCheck.irqPending = true ↔ s.irqPending = true ∧ (s.nmiPending = true ∨ s.flags.i = true)) := by
  obtain ⟨hn, h⟩ | ⟨hn, -, hi, h⟩ | ⟨hn, hq, h⟩ := interruptCheck_cases s <;> rw [h]
  · simp [service, hn]
  · simp [service, hn, hi]
  · simpa [hn] using hq

/-- Settles O46: the requests by definition, the steps by what an iteration can do. -/
theorem latchesAreSetByRequestsAndClearedByService : Obligations.LatchesAreSetByRequestsAndClearedByService := by
  unfold Obligations.LatchesAreSetByRequestsAndClearedByService
  refine ⟨fun s => ⟨rfl, rfl, rfl, rfl, rfl, rfl⟩, fun s t h => ?_⟩
  obtain ⟨hr, rfl⟩ | ⟨-, hs, rfl⟩ | ⟨hr, hs, h⟩ := step_cases h
  · exact ⟨fun hit => by simp [hit.1] at hr, fun _ => ⟨rfl, rfl⟩⟩
  · exact ⟨fun hit => by simp [hit.2] at hs, fun _ => ⟨rfl, rfl⟩⟩
  · obtain ⟨hnmi, hirq⟩ := runInstruction_latches h
    rw [hnmi, hirq]
    exact ⟨fun _ => interruptCheck_latches s, fun hn => absurd ⟨hr, hs⟩ hn⟩

end Sys2Proof
end

section
/-! The status byte (10_state.md R17, R18), taken as eight bits appended from the highest down. -/

open Sys2Proof.Machine Sys2Proof.Stated

namespace Sys2Proof

theorem Machine.Flags.pack_eq_concat (f : Flags) (b : Bool) :
    f.pack b =
      (((((((BitVec.ofBool f.n).concat f.v).concat true).concat b).concat f.d).concat f.i).concat f.z).concat f.c := rfl

/-- The weights of R17. -/
theorem Machine.Flags.pack_toNat (f : Flags) (b : Bool) : (f.pack b).toNat = packNat f b := by
  rw [pack_eq_concat]
  simp only [BitVec.toNat_concat, BitVec.toNat_ofBool, packNat, Bool.toNat_true]
  omega

/-- R18's derived law, bit by bit. -/
theorem Machine.Flags.pack_unpack (v : Byte) (b : Bool) :
    (Flags.unpack v).pack b = (v &&& 0xCF) ||| 0x20 ||| (byteOf b.toNat <<< 4) := by
  rw [pack_eq_concat]
  refine BitVec.eq_of_getLsbD_eq fun k hk => ?_
  cases b <;> interval_cases k <;> simp [Flags.unpack, byteOf]

/-- Settles O9: `UnpackP` is R18's by definition, `PackP` through its bits. -/
theorem statusBytePacksAndUnpacks : Obligations.StatusBytePacksAndUnpacks := by
  unfold Obligations.StatusBytePacksAndUnpacks
  exact ⟨Flags.pack_toNat, fun _ => rfl, Flags.pack_unpack⟩

end Sys2Proof
end

section
/-! The break flag is read by nothing (10_state.md R19): run on the state with the break flag replaced, every part of a
step answers the same state with the break flag replaced. The new value may be another one: PLP and RTI load it. -/

open Sys2Proof.Stated

namespace Sys2Proof

open Sys2Proof.Machine

theorem Operand.ea_withBreak (p : Operand) (s : State) (b : Bool) : p.ea (withBreak s b) = p.ea s := by
  cases p <;> rfl

theorem Operand.value_withBreak (p : Operand) (s : State) (b : Bool) : p.value (withBreak s b) = p.value s := by
  cases p <;> rfl

namespace Machine

theorem State.putShift_withBreak (s : State) (p : Operand) (r : Byte × Bool) (b : Bool) :
    (withBreak s b).putShift p r = withBreak (s.putShift p r) b := by
  cases p <;> rfl

theorem State.branch_withBreak (s : State) (c : Bool) (r : Byte) (b : Bool) :
    (withBreak s b).branch c r = withBreak (s.branch c r) b := by
  rw [branch_eq_setPc, branch_eq_setPc]
  rfl

/-- PLP and RTI forget the break flag that was there; every other operation carries it along and does not look at it. -/
theorem operate_withBreak (k : Mnemonic) (p : Operand) (s : State) (b : Bool) :
    ∃ c, operate k p (withBreak s b) = withBreak (operate k p s) c := by
  cases k
  case plp => exact ⟨(Flags.unpack s.pullByte).b, rfl⟩
  case rti => exact ⟨(Flags.unpack s.pullByte).b, rfl⟩
  all_goals
    refine ⟨b, ?_⟩
    simp only [operate, Operand.value_withBreak, Operand.ea_withBreak, State.branch_withBreak,
      State.putShift_withBreak] <;> rfl

theorem complete_withBreak (k : Mnemonic) (p : Operand) (s : State) (b : Bool) :
    ∃ c, complete k p (withBreak s b) = withBreak (complete k p s) c := by
  obtain ⟨c, hc⟩ := operate_withBreak k p s b
  unfold complete
  rw [hc]
  split
  · exact ⟨c, rfl⟩
  · exact ⟨c, rfl⟩

/-- An interrupt entry pushes a status byte without the break flag in it (R17, R19). -/
theorem State.service_withBreak (s : State) (v : Addr) (b : Bool) :
    (withBreak s b).service v = withBreak (s.service v) b := rfl

theorem State.interruptCheck_withBreak (s : State) (b : Bool) :
    (withBreak s b).interruptCheck = withBreak s.interruptCheck b := by
  unfold interruptCheck
  simp only [apply_ite (withBreak · b), ← service_withBreak]
  rfl

theorem runInstruction_withBreak (s : State) (b : Bool) :
    ∃ t c, runInstruction s = .next t ∧ runInstruction (withBreak s b) = .next (withBreak t c) := by
  have hf : (withBreak s b).fetchDecode = s.fetchDecode := rfl
  unfold runInstruction
  rw [hf]
  cases s.fetchDecode with
  | error e => exact ⟨_, b, rfl, rfl⟩
  | ok i =>
    obtain ⟨c, hc⟩ := complete_withBreak i.mnemonic i.operand s b
    simp only [exec_eq_complete, hc]
    exact ⟨_, c, rfl, rfl⟩

/-- A step answers a next state, and the same one but for the break flag where the break flag was another. -/
theorem step_withBreak (s : State) (b : Bool) :
    ∃ t c, step s = .next t ∧ step (withBreak s b) = .next (withBreak t c) := by
  have hr : (withBreak s b).running = s.running := rfl
  have hs : (withBreak s b).stopReq = s.stopReq := rfl
  unfold step iteration
  rw [hr, hs]
  split
  · exact ⟨s, b, rfl, rfl⟩
  · split
    · exact ⟨s.stop, b, rfl, rfl⟩
    · rw [State.interruptCheck_withBreak]
      exact runInstruction_withBreak _ b

end Machine

/-- Settles O52, by `step_withBreak`: what the two steps answer differs in the break flag alone. -/
theorem breakFlagIsUnobservable : Obligations.BreakFlagIsUnobservable := by
  unfold Obligations.BreakFlagIsUnobservable
  intro s b
  obtain ⟨t, c, ht, hu⟩ := step_withBreak s b
  exact ⟨t, withBreak t c, ht, hu, rfl⟩

end Sys2Proof
end

section
/-! Memory as data (20_memory.md R40 to R42): a memory in canonical form lists exactly the addresses that do not read as
the fill byte, each with the byte read there, in one order. -/

open Sys2Proof.Machine

namespace Sys2Proof

namespace Machine.Memory

/-- What does not read as the fill byte is listed. -/
theorem mem_of_readCell_ne {m : Memory} {k : Nat} (h : readCell m k ≠ unlisted) : (k, readCell m k) ∈ m := by
  induction m with
  | nil => exact absurd rfl h
  | cons c m ih =>
    rw [readCell_cons] at h ⊢
    split at h
    · next hk => simp [← hk]
    · next hk =>
      rw [if_neg hk]
      exact List.mem_cons_of_mem c (ih h)

/-- Where the addresses rise, no cell hides another. -/
theorem readCell_of_mem {m : Memory} {c : Host.Cell} (hm : m.Pairwise (fun c d => c.1 < d.1)) (hc : c ∈ m) :
    readCell m c.1 = c.2 := by
  induction hm with
  | nil => cases hc
  | @cons d m hd _ ih =>
    rw [readCell_cons]
    rcases List.mem_cons.mp hc with rfl | hc
    · exact if_pos rfl
    · rw [if_neg (hd c hc).ne]
      exact ih hc

/-- The cells of a canonical memory are determined by what it reads as. -/
theorem mem_iff_read {m : Memory} (h : m.wf) (c : Host.Cell) :
    c ∈ m ↔ ∃ a : Addr, m.read a ≠ unlisted ∧ (a.toNat, m.read a) = c := by
  obtain ⟨hrising, hcells⟩ := h
  constructor
  · intro hc
    obtain ⟨hlt, hlisted⟩ := hcells c hc
    have ha : (BitVec.ofNat 16 c.1).toNat = c.1 := Nat.mod_eq_of_lt hlt
    have hread : m.read (BitVec.ofNat 16 c.1) = c.2 := by rw [read, ha, readCell_of_mem hrising hc]
    exact ⟨BitVec.ofNat 16 c.1, by rwa [hread], by rw [ha, hread]⟩
  · rintro ⟨a, ha, rfl⟩
    exact mem_of_readCell_ne ha

/-- Two lists of cells at strictly rising addresses that list the same cells are equal. -/
theorem eq_of_rising {m k : Memory} (hm : m.Pairwise (fun c d => c.1 < d.1)) (hk : k.Pairwise (fun c d => c.1 < d.1))
    (h : ∀ c, c ∈ m ↔ c ∈ k) : m = k :=
  haveI : Std.Irrefl fun c d : Host.Cell => c.1 < d.1 := ⟨fun c => lt_irrefl c.1⟩
  haveI : Std.Antisymm fun c d : Host.Cell => c.1 < d.1 := ⟨fun _ _ hcd hdc => absurd hdc hcd.asymm⟩
  hm.eq_of_mem_iff hk h

theorem eq_of_read_eq {m k : Memory} (hm : m.wf) (hk : k.wf) (h : ∀ a, m.read a = k.read a) : m = k :=
  eq_of_rising hm.1 hk.1 fun c => by simp only [mem_iff_read hm, mem_iff_read hk, h]

end Machine.Memory

/-- Settles O6, by `wf_write` and by reading a canonical memory's cells off its bytes. -/
theorem canonicalMemoriesReadingAlikeAreEqual : Obligations.CanonicalMemoriesReadingAlikeAreEqual := by
  unfold Obligations.CanonicalMemoriesReadingAlikeAreEqual
  exact ⟨fun _ a v hm => Memory.wf_write hm a v, fun _ _ => Memory.eq_of_read_eq⟩

/-- Settles O5: the two reads are those of `Memory.read_write`, the frame holds by definition. -/
theorem memWriteReplacesOneByte : Obligations.MemWriteReplacesOneByte := by
  unfold Obligations.MemWriteReplacesOneByte
  exact fun s addr v => ⟨Memory.read_write_same s.mem addr v, fun _ => Memory.read_write_other s.mem v, rfl⟩

end Sys2Proof
end

section
/-! The stack in page 1 (20_memory.md R52 to R54): where a stack pointer points, and that a pull undoes a push. -/

open Sys2Proof.Machine Sys2Proof.Machine.State

namespace Sys2Proof

namespace Machine.State

theorem stackAddr_toNat (p : Byte) : (stackAddr p).toNat = 0x0100 + p.toNat := wordOf_toNat p 0x01

theorem eq_stackAddr_iff {a : Addr} {p : Byte} : a = stackAddr p ↔ a.toNat = 0x0100 + p.toNat := by
  rw [← stackAddr_toNat, BitVec.toNat_inj]

/-- `Pull` reads where the incremented `SP` points (R53). -/
theorem pullByte_eq (s : State) : s.pullByte = s.readByte (stackAddr s.pulled.sp) := rfl

theorem push_pulled_sp (s : State) (v : Byte) : (s.push v).pulled.sp = s.sp := sub_add_cancel s.sp 1

theorem push_pullByte (s : State) (v : Byte) : (s.push v).pullByte = v := by
  rw [pullByte_eq, push_pulled_sp, push_readByte, if_pos rfl]

/-- The decrement of `SP` wraps modulo 256 (R52). -/
theorem push_sp_toNat (s : State) (v : Byte) : ((s.push v).sp.toNat : Int) = ((s.sp.toNat : Int) - 1) % 256 := by
  rw [push_sp]
  bv_omega

end Machine.State

/-- Settles O7: the byte pushed through `push_readByte`, the byte pulled by where `SP` points, and R54's law. -/
theorem pushAndPullWrapInPageOne : Obligations.PushAndPullWrapInPageOne := by
  unfold Obligations.PushAndPullWrapInPageOne
  intro s v
  have hpush (a : Addr) : (s.push v).readByte a = if a.toNat = 0x0100 + s.sp.toNat then v else s.readByte a := by
    simp only [push_readByte, eq_stackAddr_iff]
  have hpulled : s.pulled.sp.toNat = (s.sp.toNat + 1) % 256 := BitVec.toNat_add s.sp 1
  have hpull (a : Addr) (ha : a.toNat = 0x0100 + s.pulled.sp.toNat) : s.pullByte = s.readByte a := by
    rw [pullByte_eq, eq_stackAddr_iff.mpr ha]
  exact ⟨hpush, push_sp_toNat s v, rfl, hpulled, rfl, hpull, push_pullByte s v, push_pulled_sp s v⟩

end Sys2Proof
end

section
/-! The encoding (30_encoding.md R60 to R68): decoder and encoder undo each other, and the decoder accepts exactly the
bytes that R68 does not list. -/

namespace Sys2Proof

open Laws.EncodeShape in
/-- The shape of every instruction's encoding, from the law of each constructor. -/
theorem encodeShape (i : Instr) : Statement i :=
  Instr.rec (motive := Statement)
    ldaImm ldaZp ldaZpx ldaAbs ldaAbx ldaAby ldaIzx ldaIzy ldxImm ldxZp ldxZpy ldxAbs ldxAby ldyImm ldyZp ldyZpx
    ldyAbs ldyAbx staZp staZpx staAbs staAbx staAby staIzx staIzy stxZp stxZpy stxAbs styZp styZpx styAbs tax tay
    tsx txa txs tya adcImm adcZp adcZpx adcAbs adcAbx adcAby adcIzx adcIzy sbcImm sbcZp sbcZpx sbcAbs sbcAbx
    sbcAby sbcIzx sbcIzy cmpImm cmpZp cmpZpx cmpAbs cmpAbx cmpAby cmpIzx cmpIzy cpxImm cpxZp cpxAbs cpyImm cpyZp
    cpyAbs andImm andZp andZpx andAbs andAbx andAby andIzx andIzy oraImm oraZp oraZpx oraAbs oraAbx oraAby oraIzx
    oraIzy eorImm eorZp eorZpx eorAbs eorAbx eorAby eorIzx eorIzy bitZp bitAbs aslAcc aslZp aslZpx aslAbs aslAbx
    lsrAcc lsrZp lsrZpx lsrAbs lsrAbx rolAcc rolZp rolZpx rolAbs rolAbx rorAcc rorZp rorZpx rorAbs rorAbx incZp
    incZpx incAbs incAbx decZp decZpx decAbs decAbx inx iny dex dey bcc bcs beq bne bmi bpl bvc bvs jmpAbs jmpInd
    jsr rts pha php pla plp clc cld cli clv sec sed sei nop brk rti
    i

theorem Mode.length_pos (m : Mode) : 0 < m.length := by cases m <;> decide

theorem Mode.length_le (m : Mode) : m.length ≤ 3 := by cases m <;> decide

/-! ## The rows of the opcode map against the encoder -/

/-- Each row of the map (R66) builds an instruction that encodes to the row's opcode and the operand bytes its format
has. -/
theorem opcodeTable_encode_build (b1 b2 : Byte) :
    opcodeTable.map (fun r => encode (r.build b1 b2)) =
      opcodeTable.map (fun r => [r.opcode, b1, b2].take r.mode.length) := by
  simp [opcodeTable, opcodeRow0, opcodeRow1, opcodeRow2, opcodeRow3, opcodeRow4, opcodeRow5, opcodeRow6, opcodeRow7,
    opcodeRow8, opcodeRow9, opcodeRowA, opcodeRowB, opcodeRowC, opcodeRowD, opcodeRowE, opcodeRowF, row0, row1, row2,
    encode, Mode.length]

theorem encode_build {b0 : Byte} {r : OpRow} (h : opcodeLookup b0 = some r) (b1 b2 : Byte) :
    encode (r.build b1 b2) = [b0, b1, b2].take r.mode.length := by
  obtain ⟨hr, rfl⟩ := opcodeLookup_some h
  exact List.map_inj_left.mp (opcodeTable_encode_build b1 b2) r hr

/-- An instruction is read back from its bytes, so no two have the same encoding. -/
theorem encode_injective : Function.Injective encode := by
  intro i j h
  obtain ⟨-, -, r, hr, -, hi⟩ := encodeShape i
  obtain ⟨-, -, q, hq, -, hj⟩ := encodeShape j
  have hrq : r = q := by
    rw [Instr.opcode, h] at hr
    exact Option.some.inj (hr.symm.trans hq)
  rw [← hi, ← hj, h, hrq]

/-! ## The decoder after the encoder -/

theorem encode_eq_cons (i : Instr) : encode i = i.opcode :: (encode i).tail := by
  have hlen : 0 < i.length := (encodeShape i).1 ▸ i.mode.length_pos
  obtain ⟨b, w, h⟩ := List.exists_cons_of_length_pos hlen
  rw [Instr.opcode, h, List.headD_cons, List.tail_cons]

/-- The operand bytes a format has are the first of the bytes after the opcode; 0 stands for those beyond the end. -/
theorem take_operands (b0 : Byte) {w : List Byte} {n : Nat} (h3 : n ≤ 3) (hw : n ≤ w.length + 1) :
    [b0, w.getD 0 0, w.getD 1 0].take n = (b0 :: w).take n := by
  match w, n with
  | _, 0 | _, 1 | _ :: _, 2 | _ :: _ :: _, 3 => rfl

/-- The decoder on a string of bytes that is long enough for the format of its first byte. -/
theorem decodeBytes_cons {b0 : Byte} {w : List Byte} {r : OpRow} (hr : opcodeLookup b0 = some r)
    (hw : r.mode.length ≤ w.length + 1) :
    decodeBytes (b0 :: w) = .ok (r.build (w.getD 0 0) (w.getD 1 0), (b0 :: w).drop r.mode.length) := by
  simp only [decodeBytes, hr, if_neg hw.not_gt, List.drop_cons r.mode.length_pos]

/-- The instruction that is read encodes to the bytes it was read from, so it is the one that was written. -/
theorem decodeBytes_encode (i : Instr) (rest : List Byte) : decodeBytes (encode i ++ rest) = .ok (i, rest) := by
  obtain ⟨hlen, -, r, hr, hmode, -⟩ := encodeShape i
  have hn : r.mode.length = (encode i).length := hmode ▸ hlen.symm
  obtain ⟨w, hword⟩ : ∃ w, encode i ++ rest = i.opcode :: w := ⟨_, congrArg (· ++ rest) (encode_eq_cons i)⟩
  have hw : r.mode.length ≤ w.length + 1 := by
    have := congrArg List.length hword
    simp only [List.length_append, List.length_cons] at this
    omega
  have hbuild : r.build (w.getD 0 0) (w.getD 1 0) = i := encode_injective <|
    calc encode (r.build (w.getD 0 0) (w.getD 1 0))
      _ = [i.opcode, w.getD 0 0, w.getD 1 0].take r.mode.length := encode_build hr _ _
      _ = (i.opcode :: w).take r.mode.length := take_operands _ r.mode.length_le hw
      _ = encode i := by rw [← hword, hn, List.take_left]
  rw [hword, decodeBytes_cons hr hw, hbuild, ← hword, hn, List.drop_left]

/-- Settles O3: the shape of every encoding is `encodeShape`, and reading it back is `decodeBytes_encode`. -/
theorem encodeThenDecodeGivesTheInstruction : Obligations.EncodeThenDecodeGivesTheInstruction := by
  unfold Obligations.EncodeThenDecodeGivesTheInstruction
  intro i rest
  obtain ⟨hlen, hwf, -⟩ := encodeShape i
  exact ⟨decodeBytes_encode i rest, hlen, hwf⟩

/-- Settles O4: the decoder accepts by a row of the map, and the row's instruction encodes to the bytes it was built
from. -/
theorem decodingDropsNoBit : Obligations.DecodingDropsNoBit := by
  unfold Obligations.DecodingDropsNoBit
  intro b0 b1 b2 i h
  obtain ⟨r, hr, rfl⟩ := decode_ok h
  have hread : encode (r.build b1 b2) = [b0, b1, b2].take r.mode.length := encode_build hr b1 b2
  have hlen : (r.build b1 b2).length = r.mode.length := by
    rw [Instr.length, hread, List.length_take]
    exact min_eq_left r.mode.length_le
  rw [hlen, hread]

/-! ## The bytes that are no opcode -/

theorem opcodeLookup_eq_none {b : Byte} : opcodeLookup b = none ↔ b ∉ opcodeTable.map (·.opcode) := by
  simp [opcodeLookup]

theorem decode_eq_error_iff {b0 b1 b2 : Byte} :
    decode b0 b1 b2 = .error (.unknownOpcode b0) ↔ opcodeLookup b0 = none :=
  ⟨fun h => (decode_error h).1, fun h => by simp [decode, h]⟩

theorem decode_eq_ok_iff {b0 b1 b2 : Byte} : (∃ i, decode b0 b1 b2 = .ok i) ↔ opcodeLookup b0 ≠ none := by
  constructor
  · rintro ⟨i, hi⟩
    obtain ⟨r, hr, -⟩ := decode_ok hi
    simp [hr]
  · intro h
    obtain ⟨r, hr⟩ := Option.ne_none_iff_exists'.mp h
    exact ⟨r.build b1 b2, by simp [decode, hr]⟩

/-- R68's list and the opcodes of the map of R66 are together the 256 bytes, each once. -/
theorem illegalOpcodes_append_opcodes_perm :
    (illegalOpcodes ++ opcodeTable.map (·.opcode)).Perm (FinEnum.toList Byte) := by
  decide +kernel

theorem illegalOpcodes_append_opcodes_nodup : (illegalOpcodes ++ opcodeTable.map (·.opcode)).Nodup :=
  illegalOpcodes_append_opcodes_perm.nodup_iff.mpr FinEnum.nodup_toList

theorem mem_illegalOpcodes_iff {b : Byte} : b ∈ illegalOpcodes ↔ b ∉ opcodeTable.map (·.opcode) := by
  obtain ⟨-, -, hdisj⟩ := List.nodup_append'.mp illegalOpcodes_append_opcodes_nodup
  have hall : b ∈ illegalOpcodes ++ opcodeTable.map (·.opcode) :=
    illegalOpcodes_append_opcodes_perm.mem_iff.mpr (FinEnum.mem_toList b)
  exact ⟨fun h => hdisj h, (List.mem_append.mp hall).resolve_right⟩

theorem opcodeLookup_eq_none_iff_illegal {b : Byte} : opcodeLookup b = none ↔ b ∈ illegalOpcodes :=
  opcodeLookup_eq_none.trans mem_illegalOpcodes_iff.symm

/-- Settles O2: the decoder rejects for want of a row, and the map lacks exactly R68's bytes. -/
theorem decoderRejectsExactlyTheListedBytes : Obligations.DecoderRejectsExactlyTheListedBytes := by
  unfold Obligations.DecoderRejectsExactlyTheListedBytes
  obtain ⟨hillegal, hopcodes, -⟩ := List.nodup_append'.mp illegalOpcodes_append_opcodes_nodup
  exact ⟨fun _ _ _ => decode_eq_error_iff.trans opcodeLookup_eq_none_iff_illegal,
    fun _ _ _ => decode_eq_ok_iff.trans opcodeLookup_eq_none_iff_illegal.not,
    hillegal, rfl, hopcodes, rfl⟩

/-- Settles O1: each opcode byte finds its row of the map, and the row takes its operand low byte first. -/
theorem sampleWordsDecodeAsWritten : Obligations.SampleWordsDecodeAsWritten := by
  unfold Obligations.SampleWordsDecodeAsWritten
  exact ⟨rfl, rfl, rfl, rfl, rfl, rfl, rfl, rfl, rfl⟩

end Sys2Proof
end

section
/-! The effective addresses (40_sequencer_addressing.md R89 to R97), on numbers. -/

open Sys2Proof.Machine Sys2Proof.Machine.State

namespace Sys2Proof

namespace Machine.State

theorem zeroPage_toNat (b : Byte) : (zeroPage b).toNat = b.toNat := by
  rw [zeroPage, wordOf_toNat]
  exact zero_add b.toNat

theorem eq_zeroPage_iff {a : Addr} {b : Byte} : a = zeroPage b ↔ a.toNat = b.toNat := by
  rw [← zeroPage_toNat, BitVec.toNat_inj]

theorem read16_toNat (s : State) (p q : Addr) :
    (s.read16 p q).toNat = 256 * (s.readByte q).toNat + (s.readByte p).toNat := wordOf_toNat _ _

/-- The two bytes of a pointer in page zero: the high one is at the next address of the page, which wraps (R95, R96, D13). -/
theorem zeroPagePointer_toNat (s : State) {b : Byte} {p q : Addr} (hp : p.toNat = b.toNat)
    (hq : q.toNat = (p.toNat + 1) % 256) :
    (s.zeroPagePointer b).toNat = 256 * (s.readByte q).toNat + (s.readByte p).toNat := by
  have hq' : q.toNat = (b + 1).toNat := by rw [hq, hp]; exact (BitVec.toNat_add b 1).symm
  rw [eq_zeroPage_iff.mpr hp, eq_zeroPage_iff.mpr hq', zeroPagePointer, read16_toNat]

/-- An index is added to a 16-bit base modulo 65536, with the carry into the high byte (R93, R94, R96). -/
theorem add_index_toNat (w : Addr) (b : Byte) : (w + b.setWidth 16).toNat = (w.toNat + b.toNat) % 65536 := by
  rw [BitVec.toNat_add, BitVec.toNat_setWidth_of_le (by decide)]

end Machine.State

/-- Settles O8: the sums wrap in their width, and each pointer is the two bytes its rule names. -/
theorem effectiveAddressesFollowTheFormats : Obligations.EffectiveAddressesFollowTheFormats := by
  unfold Obligations.EffectiveAddressesFollowTheFormats
  intro s z w
  have hzpx : (s.eaZpx z).toNat = (z.toNat + s.x.toNat) % 256 := by rw [eaZpx, zeroPage_toNat, BitVec.toNat_add]
  have hzpy : (s.eaZpy z).toNat = (z.toNat + s.y.toNat) % 256 := by rw [eaZpy, zeroPage_toNat, BitVec.toNat_add]
  refine ⟨zeroPage_toNat z, hzpx, hzpy, rfl, add_index_toNat w s.x, add_index_toNat w s.y, ?izx, ?izy, ?ind,
    read16_toNat s⟩
  case izx =>
    intro p q hp hq
    exact zeroPagePointer_toNat s (hp.trans (BitVec.toNat_add z s.x).symm) hq
  case izy =>
    intro p q hp hq
    rw [eaIzy, add_index_toNat, zeroPagePointer_toNat s hp hq]
  case ind =>
    intro q hq
    have hq' : q = w + 1 := BitVec.eq_of_toNat_eq (hq.trans (BitVec.toNat_add w 1).symm)
    rw [eaInd, read16_toNat, hq']

end Sys2Proof
end

section
/-! The sequencer (40_sequencer_addressing.md R80 to R86, R99, R104), forwards: what a step answers in each of its cases,
in terms of the byte it fetches. -/

open Sys2Proof.Machine Sys2Proof.Machine.State Sys2Proof.Stated

namespace Sys2Proof

/-- The opcode byte is the first byte of the encoding, whatever the format. -/
theorem Instr.opcode_of_encode_eq_take {b0 b1 b2 : Byte} {i : Instr} {m : Mode}
    (h : encode i = [b0, b1, b2].take m.length) : i.opcode = b0 := by
  rw [Instr.opcode, h, List.take_cons m.length_pos, List.headD_cons]

/-- The decoder reads the instruction whose opcode byte it was given. -/
theorem decode_opcode {b0 b1 b2 : Byte} {i : Instr} (h : decode b0 b1 b2 = .ok i) : i.opcode = b0 := by
  obtain ⟨r, hr, rfl⟩ := decode_ok h
  exact Instr.opcode_of_encode_eq_take (encode_build hr b1 b2)

/-- The decoder reads an instruction from any three bytes that begin with its encoding. -/
theorem decode_of_encode_eq_take {b0 b1 b2 : Byte} {i : Instr} (h : encode i = [b0, b1, b2].take i.length) :
    decode b0 b1 b2 = .ok i := by
  obtain ⟨hlen, -, r, hr, hmode, -⟩ := encodeShape i
  rw [hlen] at h
  rw [Instr.opcode_of_encode_eq_take h] at hr
  have hbuild : r.build b1 b2 = i := encode_injective (by rw [encode_build hr, hmode, h])
  rw [decode, hr, ← hbuild]

/-- BRK is the instruction of the opcode byte 0x00 (30_encoding.md R66). -/
theorem Instr.opcode_eq_zero_iff {i : Instr} : i.opcode = 0x00 ↔ i = .brk := by
  constructor
  · intro h
    obtain ⟨-, -, r, hr, -, hi⟩ := encodeShape i
    rw [h] at hr
    cases hr
    exact hi.symm
  · rintro rfl
    rfl

theorem Instr.eq_brk_of_mnemonic {i : Instr} (h : i.mnemonic = .brk) : i = .brk := by
  cases i <;> cases h
  rfl

namespace Machine

namespace State

/-- The interrupt check pushes, redirects and clears a latch; it leaves the rest of the state. -/
theorem interruptCheck_frame (s : State) :
    s.interruptCheck.running = s.running ∧ s.interruptCheck.fault = s.fault ∧
      s.interruptCheck.cyc = s.cyc ∧ s.interruptCheck.straps = s.straps := by
  obtain ⟨-, h⟩ | ⟨-, -, -, h⟩ | ⟨-, -, h⟩ := interruptCheck_cases s <;> simp [h, service]

/-- Without a request that may be serviced, the interrupt check does nothing. -/
theorem interruptCheck_eq_self {s : State} (hn : s.nmiPending = false) (hq : s.irqPending = true → s.flags.i = true) :
    s.interruptCheck = s := by
  obtain ⟨hn', -⟩ | ⟨-, hq', hi, -⟩ | ⟨-, -, h⟩ := interruptCheck_cases s
  · simp [hn] at hn'
  · simp [hq hq'] at hi
  · exact h

/-- The fetch fails on R68's bytes and on no other. -/
theorem fetchDecode_cases (s : State) :
    (s.fetchOpcode ∈ illegalOpcodes ∧ ∃ e, s.fetchDecode = .error e) ∨
    (s.fetchOpcode ∉ illegalOpcodes ∧ ∃ i, s.fetchDecode = .ok i ∧ i.opcode = s.fetchOpcode) := by
  cases h : s.fetchDecode with
  | error e => exact .inl ⟨opcodeLookup_eq_none_iff_illegal.mp (decode_error h).1, e, rfl⟩
  | ok i =>
    have hlegal : s.fetchOpcode ∉ illegalOpcodes :=
      opcodeLookup_eq_none_iff_illegal.not.mp (decode_eq_ok_iff.mp ⟨i, h⟩)
    exact .inr ⟨hlegal, i, rfl, decode_opcode h⟩

end State

/-! ## What steps (2) to (6) answer -/

theorem runInstruction_of_illegal {s : State} (h : s.fetchOpcode ∈ illegalOpcodes) :
    runInstruction s = .next s.raiseUnknownOpcode := by
  obtain ⟨-, e, he⟩ | ⟨hlegal, -⟩ := s.fetchDecode_cases
  · rw [runInstruction, he]
  · exact absurd h hlegal

theorem runInstruction_of_exec {s t : State} {i : Instr} (hi : s.fetchDecode = .ok i) (ht : exec i s = .next t) :
    runInstruction s = .next (t.accountCycles s.fetchOpcode) := by
  simp only [runInstruction, hi, ht]

/-- Steps (2) to (6) by the byte they fetch: one of R68's list, or the opcode of the instruction that runs. -/
theorem runInstruction_cases_opcode (s : State) :
    (s.fetchOpcode ∈ illegalOpcodes ∧ runInstruction s = .next s.raiseUnknownOpcode) ∨
    (s.fetchOpcode ∉ illegalOpcodes ∧ ∃ i t, i.opcode = s.fetchOpcode ∧ exec i s = .next t ∧
      runInstruction s = .next (t.accountCycles s.fetchOpcode)) := by
  obtain ⟨hillegal, -⟩ | ⟨hlegal, i, hi, hop⟩ := s.fetchDecode_cases
  · exact .inl ⟨hillegal, runInstruction_of_illegal hillegal⟩
  · have ht := exec_eq_complete i s
    exact .inr ⟨hlegal, i, _, hop, ht, runInstruction_of_exec hi ht⟩

/-- The cycles of the opcode that ran (R99); the fault adds none. -/
theorem runInstruction_cyc {s t : State} (h : runInstruction s = .next t) :
    t.cyc = if s.fetchOpcode ∈ illegalOpcodes then s.cyc else s.cyc + s.straps.baseCycles s.fetchOpcode := by
  obtain ⟨hop, hrun⟩ | ⟨hop, i, u, -, hu, hrun⟩ := runInstruction_cases_opcode s
  · cases hrun.symm.trans h
    rw [if_pos hop, raiseUnknownOpcode_cyc]
  · cases hrun.symm.trans h
    obtain ⟨-, -, -, -, hcyc, hstraps, -⟩ := instructionsLeaveTheLatchesAlone i s u hu
    rw [if_neg hop, accountCycles_cyc, hcyc, hstraps]

/-- The fault is recorded on one of R68's bytes and never by an instruction (60_exceptions.md R201). -/
theorem runInstruction_fault {s t : State} (h : runInstruction s = .next t) :
    t.fault = if s.fetchOpcode ∈ illegalOpcodes then some { byte := s.fetchOpcode, pc := s.pc } else s.fault := by
  obtain ⟨hop, hrun⟩ | ⟨hop, i, u, -, hu, hrun⟩ := runInstruction_cases_opcode s
  · cases hrun.symm.trans h
    rw [if_pos hop, raiseUnknownOpcode_fault]
  · cases hrun.symm.trans h
    obtain ⟨-, -, -, hfault, -⟩ := instructionsLeaveTheLatchesAlone i s u hu
    rw [if_neg hop, accountCycles_fault, hfault]

/-- BRK under `HALT_ON_BREAK` is the one instruction that ends a run (45_stack_flags_system.md R196). -/
theorem exec_running {i : Instr} {s t : State} (h : exec i s = .next t) :
    t.running = false ↔ s.running = false ∨ (s.straps.haltOnBreak = true ∧ i = .brk) := by
  by_cases hi : i = .brk
  · subst hi
    obtain ⟨target, rfl⟩ := exec_next h
    simp [Instr.mnemonic, operate, imp_iff_not_or]
  · obtain ⟨-, -, -, -, -, -, hrunning, -⟩ := instructionsLeaveTheLatchesAlone i s t h
    simp [hrunning (mt Instr.eq_brk_of_mnemonic hi), hi]

theorem runInstruction_running {s t : State} (h : runInstruction s = .next t) :
    t.running = false ↔ s.running = false ∨ s.fetchOpcode ∈ illegalOpcodes ∨
      (s.straps.haltOnBreak = true ∧ s.fetchOpcode = 0x00) := by
  obtain ⟨hop, hrun⟩ | ⟨hop, i, u, hi, hu, hrun⟩ := runInstruction_cases_opcode s
  · cases hrun.symm.trans h
    simp [hop]
  · cases hrun.symm.trans h
    have hbrk : i = .brk ↔ s.fetchOpcode = 0x00 := hi ▸ Instr.opcode_eq_zero_iff.symm
    simp [exec_running hu, hop, hbrk]

/-! ## What a step answers -/

theorem step_of_halted {s : State} (h : s.running = false) : step s = .next s := by
  simp [step, iteration, h]

theorem step_of_stopReq {s : State} (hr : s.running = true) (hs : s.stopReq = true) : step s = .next s.stop := by
  simp [step, iteration, hr, hs]

theorem step_of_iterates {s : State} (h : Iterates s) : step s = runInstruction s.interruptCheck := by
  simp [step, iteration, h.1, h.2]

/-- An iteration that gets as far as the fetch answers what running the fetched instruction answers. -/
theorem step_of_exec {s t : State} {i : Instr} (hs : Iterates s) (hi : s.interruptCheck.fetchDecode = .ok i)
    (ht : exec i s.interruptCheck = .next t) : step s = .next (t.accountCycles s.interruptCheck.fetchOpcode) :=
  (step_of_iterates hs).trans (runInstruction_of_exec hi ht)

end Machine

/-- Settles O37, by `step_of_exec`: the fetch reads the three bytes, and the accounting is the cycle charge. -/
theorem stepRunsTheDecodedInstruction : Obligations.StepRunsTheDecodedInstruction := by
  unfold Obligations.StepRunsTheDecodedInstruction
  rintro s _ t i hs rfl hi ht
  exact step_of_exec hs hi ht

/-- Settles O38: the two checks of step (0), and the environment's actions one by one. -/
theorem haltedDoesNothingAndStopHalts : Obligations.HaltedDoesNothingAndStopHalts := by
  unfold Obligations.HaltedDoesNothingAndStopHalts
  refine fun s => ⟨step_of_halted, step_of_stopReq, fun e he => ?_, rfl⟩
  cases e with
  | requestIrq | requestNmi | requestStop => rfl
  | applyReset => exact absurd rfl he

/-- Settles O42: an instruction completes its mnemonic's operation, and each of a step's cases answers a state. -/
theorem nothingFaultsOrRefuses : Obligations.NothingFaultsOrRefuses := by
  unfold Obligations.NothingFaultsOrRefuses
  refine fun s => ⟨fun i => ⟨_, exec_eq_complete i s⟩, ?_⟩
  cases hr : s.running with
  | false => exact ⟨s, step_of_halted hr⟩
  | true =>
    cases hs : s.stopReq with
    | true => exact ⟨s.stop, step_of_stopReq hr hs⟩
    | false =>
      rw [step_of_iterates ⟨hr, hs⟩]
      obtain ⟨-, h⟩ | ⟨-, i, t, -, -, h⟩ := runInstruction_cases_opcode s.interruptCheck
      · exact ⟨_, h⟩
      · exact ⟨_, h⟩

/-- Settles O43: neither halt nor stop reaches the accounting, and the interrupt check leaves `CYC` and the straps. -/
theorem cyclesAreChargedPerExecutedInstruction : Obligations.CyclesAreChargedPerExecutedInstruction := by
  unfold Obligations.CyclesAreChargedPerExecutedInstruction
  intro s t h
  obtain ⟨hr, rfl⟩ | ⟨-, hs, rfl⟩ | ⟨hr, hs, hrun⟩ := step_cases h
  · exact ⟨fun ⟨⟨hr', _⟩, _⟩ => by simp [hr'] at hr, fun _ => rfl⟩
  · exact ⟨fun ⟨⟨_, hs'⟩, _⟩ => by simp [hs'] at hs, fun _ => rfl⟩
  · obtain ⟨-, -, hcyc, hstraps⟩ := interruptCheck_frame s
    have ht := runInstruction_cyc hrun
    rw [hcyc, hstraps] at ht
    refine ⟨fun ⟨_, hop⟩ => ht.trans (if_neg hop), fun hn => ht.trans (if_pos ?_)⟩
    by_contra hop
    exact hn ⟨⟨hr, hs⟩, hop⟩

/-- Settles O45: a stop needs no fetch, and after the interrupt check the fetched byte decides. -/
theorem aRunEndsByOneOfThreeCauses : Obligations.ARunEndsByOneOfThreeCauses := by
  unfold Obligations.ARunEndsByOneOfThreeCauses
  intro s t hr h
  obtain ⟨hr', -⟩ | ⟨-, hs, rfl⟩ | ⟨-, hs, hrun⟩ := step_cases h
  · simp [hr] at hr'
  · exact ⟨by simp [hs], fun hf => by simp [hs, hf]⟩
  · obtain ⟨hrunning, hfault, -, hstraps⟩ := interruptCheck_frame s
    have htr := runInstruction_running hrun
    have htf := runInstruction_fault hrun
    rw [hrunning, hstraps] at htr
    rw [hfault] at htf
    refine ⟨by simpa [hr, hs, fetchOpcode] using htr, fun hf => ?_⟩
    rw [htf, hf, ite_ne_right_iff]
    simp [hs, fetchOpcode]

end Sys2Proof
end

section
/-! The program counter in sequence (40_sequencer_addressing.md R85): what is no control transfer leaves it to the
sequencer. -/

open Sys2Proof.Machine Sys2Proof.Machine.State Sys2Proof.Stated

namespace Sys2Proof

namespace Machine

@[simp] theorem State.putShift_pc (s : State) (p : Operand) (r : Byte × Bool) : (s.putShift p r).pc = s.pc := by
  cases p <;> rfl

theorem operate_pc {k : Mnemonic} (hk : k ∉ controlMnemonics) (p : Operand) (s : State) :
    (operate k p s).pc = s.pc := by
  cases k
  case bcc | bcs | beq | bne | bmi | bpl | bvc | bvs | jmp | jsr | rts | rti | brk => exact absurd hk (by decide)
  all_goals simp [operate]

end Machine

/-- Settles O47: the operation leaves `PC`, and the sequencer moves it past the bytes of the format. -/
theorem pcAdvancesByTheLength : Obligations.PcAdvancesByTheLength := by
  unfold Obligations.PcAdvancesByTheLength
  intro i s hi
  have hlen : i.operand.mode.length = (encode i).length := by rw [i.operand_mode, ← (encodeShape i).1, Instr.length]
  refine ⟨_, exec_eq_complete i s, ?_⟩
  rw [complete, if_neg hi, advance_pc, operate_pc hi, hlen, BitVec.toNat_add, BitVec.toNat_ofNat, Nat.add_mod_mod]

end Sys2Proof
end

section
/-! The placed instruction word (log entry 13): the next step fetches it. -/

open Sys2Proof.Machine Sys2Proof.Machine.State Sys2Proof.Stated

namespace Sys2Proof

/-- A word whose bytes are an instruction's holds the encoding in its first three bytes. -/
theorem encode_eq_take_tableBytes {i : Instr} {n w : Nat}
    (h : ∀ k, k < i.length → (encode i)[k]? = some (tableByte n w k)) :
    encode i = [tableByte n w 0, tableByte n w 1, tableByte n w 2].take i.length := by
  have hlen : i.length ≤ 3 := (encodeShape i).1 ▸ i.mode.length_le
  refine List.ext_getElem? fun k => ?_
  by_cases hk : k < i.length
  · rw [h k hk, List.getElem?_take_of_lt hk]
    have hk3 : k < 3 := hk.trans_le hlen
    interval_cases k <;> rfl
  · rw [List.getElem?_take_eq_none (not_lt.mp hk)]
    exact List.getElem?_eq_none (not_lt.mp hk)

namespace Machine.State

/-- The three bytes of the word are what the fetch reads. -/
theorem withFetchWord_fetchDecode (s : State) (n w : Nat) :
    (s.withFetchWord n w).fetchDecode = decode (tableByte n w 0) (tableByte n w 1) (tableByte n w 2) := by
  have hpc : (s.withFetchWord n w).pc = s.readyToFetch.pc := rfl
  simp only [fetchDecode, fetchOpcode, operand1, operand2, hpc]
  simp [withFetchWord, storeTableWord_readByte]

theorem withFetchWord_iterates (s : State) (n w : Nat) : Iterates (s.withFetchWord n w) := ⟨rfl, rfl⟩

/-- Placing the word leaves no request that the next step would service. -/
theorem withFetchWord_interruptCheck (s : State) (n w : Nat) :
    (s.withFetchWord n w).interruptCheck = s.withFetchWord n w :=
  interruptCheck_eq_self rfl fun h => (Bool.and_eq_true_iff.mp h).2

end Machine.State

/-- Settles O55: the word decodes to the instruction, the fetch reads the word, and no interrupt comes before it. -/
theorem aPlacedWordIsTheNextInstruction : Obligations.APlacedWordIsTheNextInstruction := by
  unfold Obligations.APlacedWordIsTheNextInstruction
  intro s i w h
  set u := s.withFetchWord (8 * i.length) w
  have hdecode := decode_of_encode_eq_take (encode_eq_take_tableBytes h)
  have hfetch : u.fetchDecode = .ok i := (withFetchWord_fetchDecode s _ w).trans hdecode
  refine ⟨by rw [decodeTableWord, hdecode], hfetch, fun t ht => ?_⟩
  have hcheck : u.interruptCheck = u := withFetchWord_interruptCheck s _ w
  have hstep := step_of_exec (withFetchWord_iterates s _ w) (hcheck ▸ hfetch) (hcheck ▸ ht)
  rw [hstep, hcheck, decode_opcode hfetch]

end Sys2Proof
end

section
/-! An instruction that does not write `PC` itself (40_sequencer_addressing.md R85): its operation, then `PC` in
sequence. -/

open Sys2Proof.Machine Sys2Proof.Machine.State Sys2Proof.Stated

namespace Sys2Proof.Machine

/-- `SetZN` in D0's words (R100). -/
theorem Flags.setZN_eq_znFrom (f : Flags) (v : Byte) : f.setZN v = znFrom f v := by
  rw [Flags.setZN, znFrom, zeroOf_eq, negOf_eq]

theorem exec_in_sequence {i : Instr} (hi : i.mnemonic ∉ controlMnemonics) (s : State) :
    exec i s = .next ((operate i.mnemonic i.operand s).setPc (nextPc s i)) := by
  rw [exec_eq_complete, complete, if_neg hi, advance, operate_pc hi, i.operand_mode, ← (encodeShape i).1, nextPc]

end Sys2Proof.Machine
end

section
/-! Loads, stores and transfers (41_load_store_transfer.md R110 to R121): one rule for each register that is loaded and
one for the stores; the forms differ in the operand alone. -/

open Sys2Proof.Machine Sys2Proof.Machine.State Sys2Proof.Stated

namespace Sys2Proof

namespace Machine

variable {s : State} {i : Instr} {v : Byte}

theorem loadsA_of_operate (hi : i.mnemonic ∉ controlMnemonics)
    (h : operate i.mnemonic i.operand s = (s.setA v).setZN v) : LoadsA s i v := by
  rw [LoadsA, exec_in_sequence hi, h, ← Flags.setZN_eq_znFrom]
  rfl

theorem loadsX_of_operate (hi : i.mnemonic ∉ controlMnemonics)
    (h : operate i.mnemonic i.operand s = (s.setX v).setZN v) : LoadsX s i v := by
  rw [LoadsX, exec_in_sequence hi, h, ← Flags.setZN_eq_znFrom]
  rfl

theorem loadsY_of_operate (hi : i.mnemonic ∉ controlMnemonics)
    (h : operate i.mnemonic i.operand s = (s.setY v).setZN v) : LoadsY s i v := by
  rw [LoadsY, exec_in_sequence hi, h, ← Flags.setZN_eq_znFrom]
  rfl

theorem stores_of_operate {ea : Addr} (hi : i.mnemonic ∉ controlMnemonics)
    (h : operate i.mnemonic i.operand s = s.writeByte ea v) : Stores s v i ea := by
  obtain ⟨hsame, hother, -⟩ := memWriteReplacesOneByte s ea v
  exact ⟨(s.writeByte ea v).setPc (nextPc s i), by rw [exec_in_sequence hi, h], hsame, hother, rfl⟩

/-- LDA (R110), in every format. -/
theorem loadsA_of_lda (h : i.mnemonic = .lda) : LoadsA s i (i.operand.value s) :=
  loadsA_of_operate (h ▸ by decide) (by rw [h, operate])

/-- LDX (R111), in every format. -/
theorem loadsX_of_ldx (h : i.mnemonic = .ldx) : LoadsX s i (i.operand.value s) :=
  loadsX_of_operate (h ▸ by decide) (by rw [h, operate])

/-- LDY (R112), in every format. -/
theorem loadsY_of_ldy (h : i.mnemonic = .ldy) : LoadsY s i (i.operand.value s) :=
  loadsY_of_operate (h ▸ by decide) (by rw [h, operate])

/-- STA (R113), in every format. -/
theorem stores_of_sta (h : i.mnemonic = .sta) : Stores s s.a i (i.operand.ea s) :=
  stores_of_operate (h ▸ by decide) (by rw [h, operate])

/-- STX (R114), in every format. -/
theorem stores_of_stx (h : i.mnemonic = .stx) : Stores s s.x i (i.operand.ea s) :=
  stores_of_operate (h ▸ by decide) (by rw [h, operate])

/-- STY (R115), in every format. -/
theorem stores_of_sty (h : i.mnemonic = .sty) : Stores s s.y i (i.operand.ea s) :=
  stores_of_operate (h ▸ by decide) (by rw [h, operate])

end Machine

/-- Settles O11: the rule of the mnemonic, at the operand of each form. -/
theorem storesWriteOneByteAndNoFlag : Obligations.StoresWriteOneByteAndNoFlag := by
  unfold Obligations.StoresWriteOneByteAndNoFlag
  intro s
  exact ⟨fun _ => ⟨rfl, stores_of_sta rfl⟩, fun _ => ⟨rfl, stores_of_sta rfl⟩, fun _ => ⟨rfl, stores_of_sta rfl⟩,
    fun _ => ⟨rfl, stores_of_sta rfl⟩, fun _ => ⟨rfl, stores_of_sta rfl⟩, fun _ => ⟨rfl, stores_of_sta rfl⟩,
    fun _ => ⟨rfl, stores_of_sta rfl⟩,
    fun _ => ⟨rfl, stores_of_stx rfl⟩, fun _ => ⟨rfl, stores_of_stx rfl⟩, fun _ => ⟨rfl, stores_of_stx rfl⟩,
    fun _ => ⟨rfl, stores_of_sty rfl⟩, fun _ => ⟨rfl, stores_of_sty rfl⟩, fun _ => ⟨rfl, stores_of_sty rfl⟩⟩

/-- Settles O10: the rule of the mnemonic, at the operand of each form. -/
theorem loadsCopyTheOperandAndSetZN : Obligations.LoadsCopyTheOperandAndSetZN := by
  unfold Obligations.LoadsCopyTheOperandAndSetZN
  intro s
  exact ⟨fun _ => ⟨rfl, loadsA_of_lda rfl⟩, fun _ => ⟨rfl, loadsA_of_lda rfl⟩, fun _ => ⟨rfl, loadsA_of_lda rfl⟩,
    fun _ => ⟨rfl, loadsA_of_lda rfl⟩, fun _ => ⟨rfl, loadsA_of_lda rfl⟩, fun _ => ⟨rfl, loadsA_of_lda rfl⟩,
    fun _ => ⟨rfl, loadsA_of_lda rfl⟩, fun _ => ⟨rfl, loadsA_of_lda rfl⟩,
    fun _ => ⟨rfl, loadsX_of_ldx rfl⟩, fun _ => ⟨rfl, loadsX_of_ldx rfl⟩, fun _ => ⟨rfl, loadsX_of_ldx rfl⟩,
    fun _ => ⟨rfl, loadsX_of_ldx rfl⟩, fun _ => ⟨rfl, loadsX_of_ldx rfl⟩,
    fun _ => ⟨rfl, loadsY_of_ldy rfl⟩, fun _ => ⟨rfl, loadsY_of_ldy rfl⟩, fun _ => ⟨rfl, loadsY_of_ldy rfl⟩,
    fun _ => ⟨rfl, loadsY_of_ldy rfl⟩, fun _ => ⟨rfl, loadsY_of_ldy rfl⟩⟩

/-- Settles O12: the five transfers load their destination as LDA, LDX and LDY do; TXS writes `SP` alone (D3). -/
theorem transfersCopyARegister : Obligations.TransfersCopyARegister := by
  unfold Obligations.TransfersCopyARegister
  intro s
  exact ⟨⟨rfl, loadsX_of_operate (by decide) rfl⟩, ⟨rfl, loadsY_of_operate (by decide) rfl⟩,
    ⟨rfl, loadsX_of_operate (by decide) rfl⟩, ⟨rfl, loadsA_of_operate (by decide) rfl⟩,
    ⟨rfl, loadsA_of_operate (by decide) rfl⟩, ⟨rfl, exec_in_sequence (by decide) s⟩⟩

end Sys2Proof
end

section
/-! The words the statements use for ADC, SBC and the compares (42_arithmetic_compare.md R131, R135 to R139), and the
model's own adders and compare in those words: the arithmetic of the family. -/

open Sys2Proof.Machine Sys2Proof.Stated

namespace Sys2Proof

namespace Stated

/-- A result whose `Z` and `N` are those of `SetZN`. -/
theorem aluResult_eq (r : Byte) (c v : Bool) :
    aluResult r c v = { value := r, c := c, z := zeroOf r, n := negOf r, v := v } := by
  rw [aluResult, zeroOf_eq, negOf_eq]

/-! ## The one's complement -/

theorem compl_toNat (m : Byte) : (m ^^^ 0xFF).toNat = 255 - m.toNat :=
  (congrArg BitVec.toNat (BitVec.xor_allOnes (x := m))).trans BitVec.toNat_not

theorem sext8_compl (m : Byte) : sext8 (m ^^^ 0xFF) = -1 - sext8 m := by
  have hm := m.isLt
  simp only [sext8, compl_toNat]
  split <;> split <;> omega

/-! ## Packed digits -/

theorem bcdNat_lt {b : Byte} (h : IsBcd b) : bcdNat b < 100 := by
  unfold bcdNat
  omega

theorem bcdByte_toNat {n : Nat} (h : n < 100) : (bcdByte n).toNat = 16 * (n / 10) + n % 10 := by
  rw [bcdByte, byteOf, BitVec.toNat_ofNat]
  omega

theorem isBcd_bcdByte {n : Nat} (h : n < 100) : IsBcd (bcdByte n) := by
  rw [IsBcd, bcdByte_toNat h]
  omega

theorem bcdNat_bcdByte {n : Nat} (h : n < 100) : bcdNat (bcdByte n) = n := by
  rw [bcdNat, bcdByte_toNat h]
  omega

end Stated

namespace Machine

/-! ## The binary adder -/

/-- R135's four comparisons with 0x80 say that the signed sum leaves -128..127. -/
theorem overflow_iff_signed_sum_out_of_range (a m : Byte) (c : Bool) :
    (m.toNat < 0x80 ∧ a.toNat < 0x80 ∧ 0x80 ≤ (byteOf (a.toNat + m.toNat + c.toNat)).toNat) ∨
      (0x80 ≤ m.toNat ∧ 0x80 ≤ a.toNat ∧ (byteOf (a.toNat + m.toNat + c.toNat)).toNat < 0x80) ↔
    sext8 a + sext8 m + c.toNat < -128 ∨ 127 < sext8 a + sext8 m + c.toNat := by
  have ha := a.isLt
  have hm := m.isLt
  have hc := c.toNat_le
  simp only [byteOf, BitVec.toNat_ofNat, sext8]
  split <;> split <;> omega

/-- R135's own words for `V`. -/
theorem adcBinary_v_iff (a m : Byte) (c : Bool) : (adcBinary a m c).v = true ↔
    (m.toNat < 0x80 ∧ a.toNat < 0x80 ∧ 0x80 ≤ (adcBinary a m c).value.toNat) ∨
      (0x80 ≤ m.toNat ∧ 0x80 ≤ a.toNat ∧ (adcBinary a m c).value.toNat < 0x80) := by
  simp only [adcBinary, Bool.or_eq_true, Bool.and_eq_true, decide_eq_true_eq, and_assoc]

/-- `AdcBinary` (R135) on numbers. -/
theorem adcBinary_eq_addBinary (a m : Byte) (c : Bool) : adcBinary a m c = addBinary a m c := by
  have hv := Bool.eq_iff_iff.mpr (((adcBinary_v_iff a m c).trans (overflow_iff_signed_sum_out_of_range a m c)).trans
    decide_eq_true_iff.symm)
  rw [addBinary, aluResult_eq, ← hv]
  rfl

/-- Adding the one's complement subtracts (R131): the sum is `t + 256`, and the signed sum is the signed difference. -/
theorem adcBinary_compl_eq_subBinary (a m : Byte) (c : Bool) : adcBinary a (m ^^^ 0xFF) c = subBinary a m c := by
  have hm := m.isLt
  have hvalue : byteOf (a.toNat + (255 - m.toNat) + c.toNat) =
      byteOf (((a.toNat : Int) - m.toNat - (1 - c.toNat)) % 256).toNat := by
    refine BitVec.eq_of_toNat_eq ?_
    simp only [byteOf, BitVec.toNat_ofNat]
    omega
  have hcarry : 0xFF < a.toNat + (255 - m.toNat) + c.toNat ↔ 0 ≤ (a.toNat : Int) - m.toNat - (1 - c.toNat) := by omega
  have hsigned : sext8 a + (-1 - sext8 m) + c.toNat = sext8 a - sext8 m - (1 - c.toNat) := by omega
  rw [adcBinary_eq_addBinary, addBinary, subBinary, compl_toNat, sext8_compl, hvalue, decide_eq_decide.mpr hcarry,
    hsigned]

/-- R138 on the adders: what was added is taken off again, with a borrow exactly where there was a carry. -/
theorem subBinary_addBinary (a m : Byte) :
    (subBinary (addBinary a m false).value m true).value = a ∧
      (subBinary (addBinary a m false).value m true).c = !(addBinary a m false).c := by
  have ha := a.isLt
  have hm := m.isLt
  have hsum : (byteOf (a.toNat + m.toNat)).toNat = (a.toNat + m.toNat) % 256 := BitVec.toNat_ofNat _ _
  simp only [subBinary, addBinary, aluResult, Bool.toNat_false, Bool.toNat_true, add_zero, hsum]
  refine ⟨BitVec.eq_of_toNat_eq ?_, ?_⟩
  · rw [byteOf, BitVec.toNat_ofNat]
    omega
  · rw [← decide_not, decide_eq_decide]
    omega

/-! ## The decimal adder and subtracter -/

theorem validBcd_and_iff (a m : Byte) : (validBcd a && validBcd m) = true ↔ IsBcd a ∧ IsBcd m := by
  simp only [validBcd, Bool.and_eq_true, decide_eq_true_eq]

theorem bcdEnc_eq_bcdByte (n : Nat) : bcdEnc n = bcdByte n := by
  have hdigit : n % 10 < 2 ^ 4 := (Nat.mod_lt n (by decide)).trans (by decide)
  rw [bcdEnc, bcdByte, byteOf, ← Nat.shiftLeft_add_eq_or_of_lt hdigit, Nat.shiftLeft_eq, mul_comm]

/-- The reduction of R136: a sum of two digit pairs and a carry passes 100 once at most. -/
theorem decimal_carry_eq_mod {n : Nat} (h : n < 200) : (if 99 < n then n - 100 else n) = n % 100 := by
  split <;> omega

/-- The reduction of R137: a difference of two digit pairs and a borrow falls below 0 once at most. -/
theorem decimal_borrow_eq_emod {d : Int} (hlow : -100 ≤ d) (hhigh : d < 100) :
    (if d < 0 then d + 100 else d) = d % 100 := by
  split <;> omega

/-- `AdcDecimal` (R136) on numbers. -/
theorem adcDecimal_eq_addDecimal (a m : Byte) (c : Bool) : adcDecimal a m c = addDecimal a m c := by
  unfold adcDecimal addDecimal
  refine ite_congr (propext (validBcd_and_iff a m)) (fun ⟨ha, hm⟩ => ?_) fun _ => rfl
  have ha' := bcdNat_lt ha
  have hm' := bcdNat_lt hm
  have hc := c.toNat_le
  rw [aluResult_eq, ← decimal_carry_eq_mod (by omega), ← bcdEnc_eq_bcdByte]
  rfl

/-- `SbcDecimal` (R137) on numbers. -/
theorem sbcDecimal_eq_subDecimal (a m : Byte) (c : Bool) : sbcDecimal a m c = subDecimal a m c := by
  unfold sbcDecimal subDecimal
  refine ite_congr (propext (validBcd_and_iff a m)) (fun ⟨ha, hm⟩ => ?_) fun _ => rfl
  have ha' := bcdNat_lt ha
  have hm' := bcdNat_lt hm
  have hc := c.toNat_le
  rw [aluResult_eq, ← decimal_borrow_eq_emod (by omega) (by omega), ← bcdEnc_eq_bcdByte]
  rfl

/-! ## The compare -/

/-- `Compare` (R139) on numbers. -/
theorem compare_eq_compareFlags (f : Flags) (reg m : Byte) : f.compare reg m = compareFlags f reg m := by
  have hz : (reg == m) = decide (reg.toNat = m.toNat) := by
    rw [Bool.eq_iff_iff, beq_iff_eq, decide_eq_true_iff, BitVec.toNat_inj]
  have hdiff : (reg - m).toNat = (((reg.toNat : Int) - m.toNat) % 256).toNat := by
    rw [BitVec.toNat_sub]
    omega
  rw [Flags.compare, compareFlags, hz, negOf_eq, hdiff]

end Machine

/-- Settles O14: `V` by the rule's comparisons, the rest as `addBinary` has it. -/
theorem adcBinaryCarryAndOverflow : Obligations.AdcBinaryCarryAndOverflow := by
  unfold Obligations.AdcBinaryCarryAndOverflow
  intro a m c
  have hcomparisons := adcBinary_v_iff a m c
  rw [adcBinary_eq_addBinary] at hcomparisons ⊢
  exact ⟨BitVec.toNat_ofNat _ _, decide_eq_true_iff, hcomparisons, decide_eq_true_iff, decide_eq_true_iff,
    decide_eq_true_iff⟩

/-- Settles O15: a sum modulo 100 is what the packed digits of the result hold. -/
theorem adcDecimalWrapsAtOneHundred : Obligations.AdcDecimalWrapsAtOneHundred := by
  unfold Obligations.AdcDecimalWrapsAtOneHundred
  intro a m c
  rw [adcDecimal_eq_addDecimal, addDecimal]
  refine ⟨fun h => ?_, fun h => if_neg h⟩
  have hlt : (bcdNat a + bcdNat m + c.toNat) % 100 < 100 := Nat.mod_lt _ (by decide)
  rw [if_pos h]
  exact ⟨isBcd_bcdByte hlt, bcdNat_bcdByte hlt, decide_eq_true_iff, decide_eq_true_iff, decide_eq_true_iff, rfl⟩

/-- Settles O16: a difference modulo 100 is what the packed digits of the result hold. -/
theorem sbcDecimalBorrowsBelowZero : Obligations.SbcDecimalBorrowsBelowZero := by
  unfold Obligations.SbcDecimalBorrowsBelowZero
  intro a m c
  rw [sbcDecimal_eq_subDecimal, subDecimal]
  refine ⟨fun h => ?_, fun h => if_neg h⟩
  rw [if_pos h]
  generalize (bcdNat a : Int) - bcdNat m - (1 - c.toNat) = d
  have hlt : (d % 100).toNat < 100 := by omega
  have hvalue : (bcdNat (bcdByte (d % 100).toNat) : Int) = d % 100 := by
    rw [bcdNat_bcdByte hlt]
    omega
  exact ⟨isBcd_bcdByte hlt, hvalue, decide_eq_true_iff, decide_eq_true_iff, decide_eq_true_iff, rfl⟩

end Sys2Proof
end

section
/-! ADC, SBC and the compares as instructions (42_arithmetic_compare.md R130 to R134, R138): one rule for each mnemonic
and path; the forms differ in the operand alone. -/

open Sys2Proof.Machine Sys2Proof.Machine.State Sys2Proof.Stated

namespace Sys2Proof

namespace Machine

variable {s : State} {i : Instr}

theorem aluWrites_of_operate {r : AluResult} (hi : i.mnemonic ∉ controlMnemonics)
    (h : operate i.mnemonic i.operand s = s.setAlu r) : AluWrites s i r := by
  rw [AluWrites, exec_in_sequence hi, h]
  rfl

theorem onlyFlags_of_operate {f : Flags} (hi : i.mnemonic ∉ controlMnemonics)
    (h : operate i.mnemonic i.operand s = s.setFlags f) : OnlyFlags s f i := by
  rw [OnlyFlags, exec_in_sequence hi, h]
  rfl

theorem decimalMode_iff : s.decimalMode = true ↔ decimalPath s := Bool.and_eq_true_iff

/-- ADC (R130) on the decimal path, in every format. -/
theorem aluWrites_of_adc_decimal (hd : decimalPath s) (h : i.mnemonic = .adc) :
    AluWrites s i (addDecimal s.a (i.operand.value s) s.flags.c) :=
  aluWrites_of_operate (h ▸ by decide)
    (by rw [h, operate, aluAdc, if_pos (decimalMode_iff.mpr hd), adcDecimal_eq_addDecimal])

/-- ADC (R130) on the binary path, in every format. -/
theorem aluWrites_of_adc_binary (hd : ¬ decimalPath s) (h : i.mnemonic = .adc) :
    AluWrites s i (addBinary s.a (i.operand.value s) s.flags.c) :=
  aluWrites_of_operate (h ▸ by decide)
    (by rw [h, operate, aluAdc, if_neg (mt decimalMode_iff.mp hd), adcBinary_eq_addBinary])

/-- SBC (R131) on the decimal path, in every format. -/
theorem aluWrites_of_sbc_decimal (hd : decimalPath s) (h : i.mnemonic = .sbc) :
    AluWrites s i (subDecimal s.a (i.operand.value s) s.flags.c) :=
  aluWrites_of_operate (h ▸ by decide)
    (by rw [h, operate, aluSbc, if_pos (decimalMode_iff.mpr hd), sbcDecimal_eq_subDecimal])

/-- SBC (R131) on the binary path, in every format. -/
theorem aluWrites_of_sbc_binary (hd : ¬ decimalPath s) (h : i.mnemonic = .sbc) :
    AluWrites s i (subBinary s.a (i.operand.value s) s.flags.c) :=
  aluWrites_of_operate (h ▸ by decide)
    (by rw [h, operate, aluSbc, if_neg (mt decimalMode_iff.mp hd), adcBinary_compl_eq_subBinary])

/-- CMP (R132), in every format. -/
theorem onlyFlags_of_cmp (h : i.mnemonic = .cmp) : OnlyFlags s (compareFlags s.flags s.a (i.operand.value s)) i :=
  onlyFlags_of_operate (h ▸ by decide) (by rw [h, operate, compare_eq_compareFlags])

/-- CPX (R133), in every format. -/
theorem onlyFlags_of_cpx (h : i.mnemonic = .cpx) : OnlyFlags s (compareFlags s.flags s.x (i.operand.value s)) i :=
  onlyFlags_of_operate (h ▸ by decide) (by rw [h, operate, compare_eq_compareFlags])

/-- CPY (R134), in every format. -/
theorem onlyFlags_of_cpy (h : i.mnemonic = .cpy) : OnlyFlags s (compareFlags s.flags s.y (i.operand.value s)) i :=
  onlyFlags_of_operate (h ▸ by decide) (by rw [h, operate, compare_eq_compareFlags])

end Machine

/-- Settles O13: the rule of ADC on each path, at the operand of each form. -/
theorem adcTakesThePathOfDAndWritesItsResult : Obligations.AdcTakesThePathOfDAndWritesItsResult := by
  unfold Obligations.AdcTakesThePathOfDAndWritesItsResult
  refine fun s => ⟨fun hd => ?decimal, fun hd => ?binary⟩
  case decimal => and_intros <;> exact fun _ => ⟨rfl, aluWrites_of_adc_decimal hd rfl⟩
  case binary => and_intros <;> exact fun _ => ⟨rfl, aluWrites_of_adc_binary hd rfl⟩

/-- Settles O17: the rule of SBC on each path, at the operand of each form; the adder on the complement is
`adcBinary_compl_eq_subBinary`. -/
theorem sbcSubtractsWithBorrow : Obligations.SbcSubtractsWithBorrow := by
  unfold Obligations.SbcSubtractsWithBorrow
  refine ⟨fun s => ⟨fun hd => ?decimal, fun hd => ?binary⟩, adcBinary_compl_eq_subBinary⟩
  case decimal => and_intros <;> exact fun _ => ⟨rfl, aluWrites_of_sbc_decimal hd rfl⟩
  case binary => and_intros <;> exact fun _ => ⟨rfl, aluWrites_of_sbc_binary hd rfl⟩

/-- Settles O18: the rule of the mnemonic, at the operand of each form. -/
theorem comparesWriteCZNOnly : Obligations.ComparesWriteCZNOnly := by
  unfold Obligations.ComparesWriteCZNOnly
  intro s
  exact ⟨fun _ => ⟨rfl, onlyFlags_of_cmp rfl⟩, fun _ => ⟨rfl, onlyFlags_of_cmp rfl⟩,
    fun _ => ⟨rfl, onlyFlags_of_cmp rfl⟩, fun _ => ⟨rfl, onlyFlags_of_cmp rfl⟩, fun _ => ⟨rfl, onlyFlags_of_cmp rfl⟩,
    fun _ => ⟨rfl, onlyFlags_of_cmp rfl⟩, fun _ => ⟨rfl, onlyFlags_of_cmp rfl⟩, fun _ => ⟨rfl, onlyFlags_of_cmp rfl⟩,
    fun _ => ⟨rfl, onlyFlags_of_cpx rfl⟩, fun _ => ⟨rfl, onlyFlags_of_cpx rfl⟩, fun _ => ⟨rfl, onlyFlags_of_cpx rfl⟩,
    fun _ => ⟨rfl, onlyFlags_of_cpy rfl⟩, fun _ => ⟨rfl, onlyFlags_of_cpy rfl⟩, fun _ => ⟨rfl, onlyFlags_of_cpy rfl⟩⟩

/-- Settles O19: none of the three leaves the binary path, and `SEC` gives SBC a carry, so that `subBinary_addBinary`
says what it answers. -/
theorem sbcUndoesAdc : Obligations.SbcUndoesAdc := by
  unfold Obligations.SbcUndoesAdc
  intro s b hd hc
  obtain ⟨ha, hcarry⟩ := subBinary_addBinary s.a b
  have hadc : AluWrites s (.adcImm b) (addBinary s.a b false) := hc ▸ aluWrites_of_adc_binary hd rfl
  exact ⟨_, _, _, hadc, exec_in_sequence (by decide) _, aluWrites_of_sbc_binary (i := .sbcImm b) hd rfl, ha, hcarry⟩

end Sys2Proof
end

section
/-! The words the statements use for BIT, the shifts, the rotates and the counts (43_logic_shift_incdec.md R143 to
R153), and the model's own bit operations in those words: the arithmetic of the family. -/

open Sys2Proof.Machine Sys2Proof.Stated

namespace Sys2Proof

namespace Stated

/-! ## A byte moved by one bit, on numbers -/

theorem byteOf_two_mul (t : Byte) : byteOf (2 * t.toNat) = t <<< 1 := by
  rw [mul_comm, ← Nat.shiftLeft_eq t.toNat 1]
  rfl

theorem byteOf_div_two (t : Byte) : byteOf (t.toNat / 2) = t >>> 1 := by
  have ht := t.isLt
  refine BitVec.eq_of_toNat_eq ?_
  rw [byteOf, BitVec.toNat_ofNat, BitVec.toNat_ushiftRight, Nat.shiftRight_eq_div_pow]
  omega

/-- The carry enters the bit that the shift to the left vacates. -/
theorem byteOf_two_mul_add (t : Byte) (c : Bool) :
    byteOf (2 * t.toNat + c.toNat) = t <<< 1 ||| byteOf c.toNat := by
  have hvacated : 2 * t.toNat + c.toNat = 2 * t.toNat ||| c.toNat := by
    have h := Nat.shiftLeft_add_eq_or_of_lt (i := 1) c.toNat_lt t.toNat
    rwa [Nat.shiftLeft_eq, mul_comm] at h
  rw [hvacated, byteOf, BitVec.ofNat_or, ← byteOf_two_mul]
  rfl

/-- The carry enters the bit that the shift to the right vacates. -/
theorem byteOf_div_two_add (t : Byte) (c : Bool) :
    byteOf (t.toNat / 2 + 128 * c.toNat) = t >>> 1 ||| byteOf (c.toNat <<< 7) := by
  have hhalf : t.toNat / 2 < 2 ^ 7 := Nat.div_lt_of_lt_mul t.isLt
  have hvacated : t.toNat / 2 + 128 * c.toNat = t.toNat / 2 ||| c.toNat <<< 7 := by
    rw [Nat.or_comm, ← Nat.shiftLeft_add_eq_or_of_lt hhalf, Nat.shiftLeft_eq]
    omega
  rw [hvacated, byteOf, BitVec.ofNat_or, ← byteOf_div_two]
  rfl

/-! ## Counting modulo 256 -/

theorem byteOf_add_one (t : Byte) : byteOf (t.toNat + 1) = t + 1 := by
  rw [byteOf, BitVec.ofNat_add, BitVec.ofNat_toNat, BitVec.setWidth_eq]
  rfl

theorem byteOf_add_255 (t : Byte) : byteOf (t.toNat + 255) = t - 1 := by
  rw [byteOf, BitVec.ofNat_add, BitVec.ofNat_toNat, BitVec.setWidth_eq, BitVec.sub_eq_add_neg]
  rfl

end Stated

namespace Machine

/-! ## The model's operations in those words -/

/-- ASL (R144) on numbers. -/
theorem aslByte_eq (t : Byte) : aslByte t = (byteOf (2 * t.toNat), decide (0x80 ≤ t.toNat)) := by
  rw [byteOf_two_mul, ← negOf_eq]
  rfl

/-- LSR (R145) on numbers. -/
theorem lsrByte_eq (t : Byte) : lsrByte t = (byteOf (t.toNat / 2), decide (t.toNat % 2 = 1)) := by
  rw [byteOf_div_two, ← Nat.testBit_zero]
  rfl

/-- ROL (R146) on numbers. -/
theorem rolByte_eq (c : Bool) (t : Byte) :
    rolByte c t = (byteOf (2 * t.toNat + c.toNat), decide (0x80 ≤ t.toNat)) := by
  rw [byteOf_two_mul_add, ← negOf_eq]
  rfl

/-- ROR (R147) on numbers. -/
theorem rorByte_eq (c : Bool) (t : Byte) :
    rorByte c t = (byteOf (t.toNat / 2 + 128 * c.toNat), decide (t.toNat % 2 = 1)) := by
  rw [byteOf_div_two_add, ← Nat.testBit_zero]
  rfl

/-- The flags of a shift (R144 to R147) in D0's words. -/
theorem Flags.setShift_eq_znFrom (f : Flags) (v : Byte) (c : Bool) :
    f.setShift (v, c) = znFrom { f with c := c } v := Flags.setZN_eq_znFrom _ v

/-- BIT (R143) on numbers. -/
theorem Flags.bitTest_eq (f : Flags) (a m : Byte) : f.bitTest a m =
    { f with z := decide ((a &&& m).toNat = 0), n := m.toNat.testBit 7, v := m.toNat.testBit 6 } := by
  rw [Flags.bitTest, zeroOf_eq]
  rfl

end Machine

end Sys2Proof
end

section
/-! Logic, BIT, shifts, rotates, increments and decrements as instructions (43_logic_shift_incdec.md R140 to R153): one
rule for each mnemonic; the forms differ in the operand alone. -/

open Sys2Proof.Machine Sys2Proof.Machine.State Sys2Proof.Stated

namespace Sys2Proof

namespace Machine

/-- The instruction completes, replacing the byte it operates on where it stands, `A` or memory, and writing the flags;
everything else is as before. -/
def ModifiesOperand (s : State) (i : Instr) (v : Byte) (f : Flags) : Prop :=
  match i.operand with
  | .acc => ModifiesA s i v f
  | p => Modifies s i (p.ea s) v f

variable {s : State} {i : Instr} {v : Byte} {f : Flags}

theorem State.putShift_of_ne_acc (s : State) {p : Operand} (hp : p ≠ .acc) (r : Byte × Bool) :
    s.putShift p r = s.putShiftMem (p.ea s) r := by
  cases p
  case acc => exact absurd rfl hp
  all_goals rfl

theorem modifiesA_of_operate (hi : i.mnemonic ∉ controlMnemonics)
    (h : operate i.mnemonic i.operand s = (s.setA v).setFlags f) : ModifiesA s i v f := by
  rw [ModifiesA, exec_in_sequence hi, h]
  rfl

theorem modifies_of_operate {ea : Addr} (hi : i.mnemonic ∉ controlMnemonics)
    (h : operate i.mnemonic i.operand s = (s.writeByte ea v).setFlags f) : Modifies s i ea v f := by
  obtain ⟨hsame, hother, -⟩ := memWriteReplacesOneByte s ea v
  exact ⟨((s.writeByte ea v).setFlags f).setPc (nextPc s i), by rw [exec_in_sequence hi, h], hsame, hother, rfl⟩

/-- A shifted byte goes back to the operand it was read from (R144 to R147). -/
theorem modifiesOperand_of_putShift {c : Bool} (hi : i.mnemonic ∉ controlMnemonics)
    (h : operate i.mnemonic i.operand s = s.putShift i.operand (v, c)) :
    ModifiesOperand s i v (znFrom { s.flags with c := c } v) := by
  rw [← Flags.setShift_eq_znFrom]
  unfold ModifiesOperand
  split
  · next hacc => exact modifiesA_of_operate hi (by rw [h, hacc]; rfl)
  · next hmem => exact modifies_of_operate hi (h.trans (putShift_of_ne_acc s hmem _))

/-- ASL (R144), in every format. -/
theorem modifiesOperand_of_asl (h : i.mnemonic = .asl) :
    ModifiesOperand s i (byteOf (2 * (i.operand.value s).toNat))
      (znFrom { s.flags with c := decide (0x80 ≤ (i.operand.value s).toNat) }
        (byteOf (2 * (i.operand.value s).toNat))) :=
  modifiesOperand_of_putShift (h ▸ by decide) (by rw [h, operate, aslByte_eq])

/-- LSR (R145), in every format. -/
theorem modifiesOperand_of_lsr (h : i.mnemonic = .lsr) :
    ModifiesOperand s i (byteOf ((i.operand.value s).toNat / 2))
      (znFrom { s.flags with c := decide ((i.operand.value s).toNat % 2 = 1) }
        (byteOf ((i.operand.value s).toNat / 2))) :=
  modifiesOperand_of_putShift (h ▸ by decide) (by rw [h, operate, lsrByte_eq])

/-- ROL (R146), in every format. -/
theorem modifiesOperand_of_rol (h : i.mnemonic = .rol) :
    ModifiesOperand s i (byteOf (2 * (i.operand.value s).toNat + s.flags.c.toNat))
      (znFrom { s.flags with c := decide (0x80 ≤ (i.operand.value s).toNat) }
        (byteOf (2 * (i.operand.value s).toNat + s.flags.c.toNat))) :=
  modifiesOperand_of_putShift (h ▸ by decide) (by rw [h, operate, rolByte_eq])

/-- ROR (R147), in every format. -/
theorem modifiesOperand_of_ror (h : i.mnemonic = .ror) :
    ModifiesOperand s i (byteOf ((i.operand.value s).toNat / 2 + 128 * s.flags.c.toNat))
      (znFrom { s.flags with c := decide ((i.operand.value s).toNat % 2 = 1) }
        (byteOf ((i.operand.value s).toNat / 2 + 128 * s.flags.c.toNat))) :=
  modifiesOperand_of_putShift (h ▸ by decide) (by rw [h, operate, rorByte_eq])

/-- INC and DEC share their write (R103, R148, R149). -/
theorem modifies_of_putCount {ea : Addr} (hi : i.mnemonic ∉ controlMnemonics)
    (h : operate i.mnemonic i.operand s = s.putCount ea v) : Modifies s i ea v (znFrom s.flags v) :=
  Flags.setZN_eq_znFrom s.flags v ▸ modifies_of_operate hi h

/-- INC (R148), in every format. -/
theorem modifies_of_inc (h : i.mnemonic = .inc) :
    Modifies s i (i.operand.ea s) (byteOf ((i.operand.value s).toNat + 1))
      (znFrom s.flags (byteOf ((i.operand.value s).toNat + 1))) :=
  modifies_of_putCount (h ▸ by decide) (by rw [h, operate, byteOf_add_one])

/-- DEC (R149), in every format. -/
theorem modifies_of_dec (h : i.mnemonic = .dec) :
    Modifies s i (i.operand.ea s) (byteOf ((i.operand.value s).toNat + 255))
      (znFrom s.flags (byteOf ((i.operand.value s).toNat + 255))) :=
  modifies_of_putCount (h ▸ by decide) (by rw [h, operate, byteOf_add_255])

/-- AND (R140), in every format. -/
theorem loadsA_of_and (h : i.mnemonic = .and) : LoadsA s i (s.a &&& i.operand.value s) :=
  loadsA_of_operate (h ▸ by decide) (by rw [h, operate])

/-- ORA (R141), in every format. -/
theorem loadsA_of_ora (h : i.mnemonic = .ora) : LoadsA s i (s.a ||| i.operand.value s) :=
  loadsA_of_operate (h ▸ by decide) (by rw [h, operate])

/-- EOR (R142), in every format. -/
theorem loadsA_of_eor (h : i.mnemonic = .eor) : LoadsA s i (s.a ^^^ i.operand.value s) :=
  loadsA_of_operate (h ▸ by decide) (by rw [h, operate])

/-- BIT (R143), in every format. -/
theorem onlyFlags_of_bit (h : i.mnemonic = .bit) :
    OnlyFlags s
      { s.flags with
        z := decide ((s.a &&& i.operand.value s).toNat = 0)
        n := (i.operand.value s).toNat.testBit 7
        v := (i.operand.value s).toNat.testBit 6 } i :=
  onlyFlags_of_operate (h ▸ by decide) (by rw [h, operate, Flags.bitTest_eq])

end Machine

/-- Settles O22: the rule of the mnemonic, at the operand of each form. -/
theorem shiftsMoveOneBit : Obligations.ShiftsMoveOneBit := by
  unfold Obligations.ShiftsMoveOneBit
  intro s
  exact ⟨⟨rfl, modifiesOperand_of_asl (i := .aslAcc) rfl⟩,
    fun z => ⟨rfl, modifiesOperand_of_asl (i := .aslZp z) rfl⟩,
    fun z => ⟨rfl, modifiesOperand_of_asl (i := .aslZpx z) rfl⟩,
    fun a => ⟨rfl, modifiesOperand_of_asl (i := .aslAbs a) rfl⟩,
    fun a => ⟨rfl, modifiesOperand_of_asl (i := .aslAbx a) rfl⟩,
    ⟨rfl, modifiesOperand_of_lsr (i := .lsrAcc) rfl⟩,
    fun z => ⟨rfl, modifiesOperand_of_lsr (i := .lsrZp z) rfl⟩,
    fun z => ⟨rfl, modifiesOperand_of_lsr (i := .lsrZpx z) rfl⟩,
    fun a => ⟨rfl, modifiesOperand_of_lsr (i := .lsrAbs a) rfl⟩,
    fun a => ⟨rfl, modifiesOperand_of_lsr (i := .lsrAbx a) rfl⟩⟩

/-- Settles O23: the rule of the mnemonic, at the operand of each form. -/
theorem rotatesPassThroughCarry : Obligations.RotatesPassThroughCarry := by
  unfold Obligations.RotatesPassThroughCarry
  intro s
  exact ⟨⟨rfl, modifiesOperand_of_rol (i := .rolAcc) rfl⟩,
    fun z => ⟨rfl, modifiesOperand_of_rol (i := .rolZp z) rfl⟩,
    fun z => ⟨rfl, modifiesOperand_of_rol (i := .rolZpx z) rfl⟩,
    fun a => ⟨rfl, modifiesOperand_of_rol (i := .rolAbs a) rfl⟩,
    fun a => ⟨rfl, modifiesOperand_of_rol (i := .rolAbx a) rfl⟩,
    ⟨rfl, modifiesOperand_of_ror (i := .rorAcc) rfl⟩,
    fun z => ⟨rfl, modifiesOperand_of_ror (i := .rorZp z) rfl⟩,
    fun z => ⟨rfl, modifiesOperand_of_ror (i := .rorZpx z) rfl⟩,
    fun a => ⟨rfl, modifiesOperand_of_ror (i := .rorAbs a) rfl⟩,
    fun a => ⟨rfl, modifiesOperand_of_ror (i := .rorAbx a) rfl⟩⟩

/-- Settles O24: the rule of the mnemonic, at the operand of each form. -/
theorem incAndDecCountAMemoryByte : Obligations.IncAndDecCountAMemoryByte := by
  unfold Obligations.IncAndDecCountAMemoryByte
  intro s
  exact ⟨fun _ => ⟨rfl, modifies_of_inc rfl⟩, fun _ => ⟨rfl, modifies_of_inc rfl⟩,
    fun _ => ⟨rfl, modifies_of_inc rfl⟩, fun _ => ⟨rfl, modifies_of_inc rfl⟩,
    fun _ => ⟨rfl, modifies_of_dec rfl⟩, fun _ => ⟨rfl, modifies_of_dec rfl⟩,
    fun _ => ⟨rfl, modifies_of_dec rfl⟩, fun _ => ⟨rfl, modifies_of_dec rfl⟩⟩

/-- Settles O25: counting on numbers is counting on bytes, and each of the four loads its register with the count. -/
theorem indexRegistersCount : Obligations.IndexRegistersCount := by
  unfold Obligations.IndexRegistersCount
  intro s
  rw [byteOf_add_one, byteOf_add_one, byteOf_add_255, byteOf_add_255]
  exact ⟨⟨rfl, loadsX_of_operate (by decide) rfl⟩, ⟨rfl, loadsY_of_operate (by decide) rfl⟩,
    ⟨rfl, loadsX_of_operate (by decide) rfl⟩, ⟨rfl, loadsY_of_operate (by decide) rfl⟩⟩

/-- Settles O20: the rule of the mnemonic, at the operand of each form. -/
theorem logicCombinesAWithTheOperand : Obligations.LogicCombinesAWithTheOperand := by
  unfold Obligations.LogicCombinesAWithTheOperand
  intro s
  exact ⟨
    fun _ => ⟨rfl, loadsA_of_and rfl⟩, fun _ => ⟨rfl, loadsA_of_and rfl⟩, fun _ => ⟨rfl, loadsA_of_and rfl⟩,
    fun _ => ⟨rfl, loadsA_of_and rfl⟩, fun _ => ⟨rfl, loadsA_of_and rfl⟩, fun _ => ⟨rfl, loadsA_of_and rfl⟩,
    fun _ => ⟨rfl, loadsA_of_and rfl⟩, fun _ => ⟨rfl, loadsA_of_and rfl⟩,
    fun _ => ⟨rfl, loadsA_of_ora rfl⟩, fun _ => ⟨rfl, loadsA_of_ora rfl⟩, fun _ => ⟨rfl, loadsA_of_ora rfl⟩,
    fun _ => ⟨rfl, loadsA_of_ora rfl⟩, fun _ => ⟨rfl, loadsA_of_ora rfl⟩, fun _ => ⟨rfl, loadsA_of_ora rfl⟩,
    fun _ => ⟨rfl, loadsA_of_ora rfl⟩, fun _ => ⟨rfl, loadsA_of_ora rfl⟩,
    fun _ => ⟨rfl, loadsA_of_eor rfl⟩, fun _ => ⟨rfl, loadsA_of_eor rfl⟩, fun _ => ⟨rfl, loadsA_of_eor rfl⟩,
    fun _ => ⟨rfl, loadsA_of_eor rfl⟩, fun _ => ⟨rfl, loadsA_of_eor rfl⟩, fun _ => ⟨rfl, loadsA_of_eor rfl⟩,
    fun _ => ⟨rfl, loadsA_of_eor rfl⟩, fun _ => ⟨rfl, loadsA_of_eor rfl⟩⟩

/-- Settles O21: the rule of the mnemonic, at the operand of each form. -/
theorem bitTestsTheOperand : Obligations.BitTestsTheOperand := by
  unfold Obligations.BitTestsTheOperand
  exact fun s => ⟨fun _ => ⟨rfl, onlyFlags_of_bit rfl⟩, fun _ => ⟨rfl, onlyFlags_of_bit rfl⟩⟩

end Sys2Proof
end

section
/-! Control flow (44_control_flow.md): a branch goes by its condition, JSR and RTS push and pull a word. -/

open Sys2Proof.Machine Sys2Proof.Machine.State Sys2Proof.Stated

namespace Sys2Proof

/-! ## Branches -/

theorem Stated.sext8_eq_toInt (b : Byte) : sext8 b = b.toInt := by
  rw [sext8, BitVec.toInt_eq_toNat_cond]
  split <;> split <;> omega

namespace Machine

namespace State

/-- The target of a branch (40_sequencer_addressing.md R98, D2), on integers. -/
theorem branchTarget_toNat (s : State) (rel : Byte) :
    ((s.branchTarget rel).toNat : Int) = ((s.pc.toNat : Int) + 2 + sext8 rel) % 65536 := by
  have hrel : ((rel.signExtend 16).toNat : Int) = sext8 rel % 65536 := by
    rw [sext8_eq_toInt, BitVec.signExtend, BitVec.toNat_ofInt]
    exact Int.toNat_of_nonneg (Int.emod_nonneg _ (by decide))
  have hnext : (s.pc + 2).toNat = (s.pc.toNat + 2) % 65536 := BitVec.toNat_add s.pc 2
  rw [branchTarget, BitVec.toNat_add, hnext]
  omega

/-- A branch not taken goes past its two bytes (R85). -/
theorem branch_false_pc_toNat (s : State) (rel : Byte) : (s.branch false rel).pc.toNat = (s.pc.toNat + 2) % 65536 :=
  BitVec.toNat_add s.pc 2

end State

/-- The shared rule of the eight branches (44_control_flow.md R160). -/
theorem branchesWhen_of_exec {s : State} {opcode : Byte} {f : Byte → Instr} {c : Bool} {cond : Prop}
    (h : ∀ rel, encode (f rel) = [opcode, rel] ∧ exec (f rel) s = .next (s.branch c rel)) (hc : c = true ↔ cond) :
    BranchesWhen s opcode f cond := by
  intro rel
  obtain ⟨hword, hexec⟩ := h rel
  refine ⟨hword, s.branch c rel, hexec, by rw [branch_eq_setPc]; rfl, fun htaken => ?_, fun huntaken => ?_⟩
  · rw [hc.mpr htaken]
    exact branchTarget_toNat s rel
  · rw [Bool.eq_false_iff.mpr (hc.not.mpr huntaken)]
    exact branch_false_pc_toNat s rel

end Machine

/-- Settles O26: the rule of the branches, at the condition of each. -/
theorem branchesGoByTheirFlag : Obligations.BranchesGoByTheirFlag := by
  unfold Obligations.BranchesGoByTheirFlag
  intro s
  have hclear (c : Bool) : (!c) = true ↔ c = false := iff_of_eq (Bool.not_eq_true' c)
  exact ⟨branchesWhen_of_exec (fun _ => ⟨rfl, rfl⟩) (hclear _), branchesWhen_of_exec (fun _ => ⟨rfl, rfl⟩) .rfl,
    branchesWhen_of_exec (fun _ => ⟨rfl, rfl⟩) .rfl, branchesWhen_of_exec (fun _ => ⟨rfl, rfl⟩) (hclear _),
    branchesWhen_of_exec (fun _ => ⟨rfl, rfl⟩) .rfl, branchesWhen_of_exec (fun _ => ⟨rfl, rfl⟩) (hclear _),
    branchesWhen_of_exec (fun _ => ⟨rfl, rfl⟩) (hclear _), branchesWhen_of_exec (fun _ => ⟨rfl, rfl⟩) .rfl⟩

/-- Settles O27: both forms set `PC` alone, to the operand's effective address. -/
theorem jumpsReachTheirTarget : Obligations.JumpsReachTheirTarget := by
  unfold Obligations.JumpsReachTheirTarget
  exact fun s => ⟨fun a => ⟨rfl, exec_eq_complete (.jmpAbs a) s⟩, fun p => ⟨rfl, exec_eq_complete (.jmpInd p) s⟩⟩

/-! ## Subroutine linkage -/

namespace Machine.State

theorem pushWord_sp_eq (s : State) (w : Addr) : (s.pushWord w).sp = s.sp - 2 := sub_sub s.sp 1 1

theorem pulled_pulled_sp (s : State) : s.pulled.pulled.sp = s.sp + 2 := add_assoc s.sp 1 1

/-- All that a word pushed and a jump change. -/
theorem pushWord_setPc_eq (s : State) (w target : Addr) :
    (s.pushWord w).setPc target = { s with mem := (s.pushWord w).mem, sp := s.sp - 2, pc := target } := by
  rw [← pushWord_sp_eq s w]
  rfl

/-- All that two pulls and a jump change. -/
theorem pulled_pulled_setPc_eq (s : State) (target : Addr) :
    s.pulled.pulled.setPc target = { s with sp := s.sp + 2, pc := target } := by
  rw [← pulled_pulled_sp]
  rfl

/-- The stack location that gets the high byte of a pushed word (20_memory.md R45). -/
theorem pushWord_readByte_hi (s : State) (w : Addr) : (s.pushWord w).readByte (stackAddr s.sp) = hiByte w := by
  have hne : s.sp ≠ s.sp - 1 := by bv_omega
  rw [pushWord_readByte, if_neg (mt (stackAddr_inj _ _).mp hne), if_pos rfl]

/-- The stack location that gets the low byte. -/
theorem pushWord_readByte_lo (s : State) (w : Addr) : (s.pushWord w).readByte (stackAddr (s.sp - 1)) = loByte w := by
  rw [pushWord_readByte, if_pos rfl]

theorem pushWord_readByte_other (s : State) (w : Addr) {a : Addr} (hhi : a ≠ stackAddr s.sp)
    (hlo : a ≠ stackAddr (s.sp - 1)) : (s.pushWord w).readByte a = s.readByte a := by
  rw [pushWord_readByte, if_neg hlo, if_neg hhi]

/-- Pulling a word undoes pushing it, as R54 has it of a byte. -/
theorem pushWord_pullWord (s : State) (w : Addr) : (s.pushWord w).pullWord = w := by
  have hlo : (s.pushWord w).sp + 1 = s.sp - 1 := sub_add_cancel (s.sp - 1) 1
  rw [pullWord_def, hlo, sub_add_cancel, pushWord_readByte_lo, pushWord_readByte_hi, wordOf_bytes]

theorem pullWord_toNat (s : State) : s.pullWord.toNat =
    256 * (s.readByte (stackAddr (s.sp + 2))).toNat + (s.readByte (stackAddr (s.sp + 1))).toNat := by
  rw [← pulled_pulled_sp]
  exact wordOf_toNat _ _

theorem jsrReturn_toNat (s : State) : s.jsrReturn.toNat = (s.pc.toNat + 2) % 65536 := BitVec.toNat_add s.pc 2

/-- A JSR whose pushes leave its operand bytes goes to its operand (44_control_flow.md R171). -/
theorem jsrTarget_of_unchanged {s : State} (addr : Addr)
    (h1 : (s.pushWord s.jsrReturn).readByte (s.pc + 1) = s.readByte (s.pc + 1))
    (h2 : (s.pushWord s.jsrReturn).readByte (s.pc + 2) = s.readByte (s.pc + 2)) : s.jsrTarget addr = addr := by
  rw [jsrTarget, reread_unchanged _ h1, reread_unchanged _ h2, wordOf_bytes]

end Machine.State

/-- Settles O28: the word pushed byte by byte, and the target read after the pushes or, where they do not reach it, from
the instruction. -/
theorem jsrPushesItsLastByteAndJumps : Obligations.JsrPushesItsLastByteAndJumps := by
  unfold Obligations.JsrPushesItsLastByteAndJumps
  intro s addr
  refine ⟨rfl, (s.pushWord s.jsrReturn).setPc (s.jsrTarget addr), rfl, ?hi, ?lo, ?others, ?frame, ?target⟩
  case hi => rw [setPc_readByte, pushWord_readByte_hi, hiByte_toNat, jsrReturn_toNat]
  case lo => rw [setPc_readByte, pushWord_readByte_lo, loByte_toNat, jsrReturn_toNat]
  case others => exact fun a hhi hlo => pushWord_readByte_other s s.jsrReturn hhi hlo
  case frame => exact pushWord_setPc_eq s s.jsrReturn (s.jsrTarget addr)
  case target =>
    intro h1 h2
    refine ⟨jsrTarget_fetched h1 h2, fun hout => ?_⟩
    obtain ⟨hhi1, hhi2⟩ := hout s.sp (.inl rfl)
    obtain ⟨hlo1, hlo2⟩ := hout (s.sp - 1) (.inr rfl)
    exact jsrTarget_of_unchanged addr (pushWord_readByte_other s _ hhi1 hlo1) (pushWord_readByte_other s _ hhi2 hlo2)

/-- Settles O29: the two pulls move `SP` by 2, and `PC` is one past the word they return. -/
theorem rtsReturnsPastThePulledAddress : Obligations.RtsReturnsPastThePulledAddress := by
  unfold Obligations.RtsReturnsPastThePulledAddress
  intro s
  refine ⟨rfl, s.pulled.pulled.setPc (s.pullWord + 1), rfl, pulled_pulled_setPc_eq s (s.pullWord + 1), ?_⟩
  rw [setPc_pc, BitVec.toNat_add, pullWord_toNat]
  rfl

/-- Settles O30: RTS pulls the word JSR pushed, `SP` goes down by 2 and up again, and only memory and `PC` are
left changed. -/
theorem rtsAfterJsrReturnsPastTheCall : Obligations.RtsAfterJsrReturnsPastTheCall := by
  unfold Obligations.RtsAfterJsrReturnsPastTheCall
  intro s addr
  let t := (s.pushWord s.jsrReturn).setPc (s.jsrTarget addr)
  have hpc : t.pullWord + 1 = s.pc + 3 :=
    calc t.pullWord + 1
      _ = s.jsrReturn + 1 := congrArg (· + 1) (pushWord_pullWord s s.jsrReturn)
      _ = s.pc + 3 := add_assoc s.pc 2 1
  have hsp : t.sp + 2 = s.sp := by rw [setPc_sp, pushWord_sp_eq, sub_add_cancel]
  have hcall : t = { s with mem := t.mem, sp := s.sp - 2, pc := t.pc } := pushWord_setPc_eq s s.jsrReturn _
  refine ⟨t, t.pulled.pulled.setPc (t.pullWord + 1), rfl, rfl, ?_⟩
  rw [pulled_pulled_setPc_eq, hpc, hsp, hcall]

end Sys2Proof
end

section
/-! Interrupt entry and return (60_exceptions.md R210, R214; 45_stack_flags_system.md R196, R197): a word and a status
byte pushed, or a status byte and a word pulled. -/

open Sys2Proof.Machine Sys2Proof.Machine.State Sys2Proof.Stated

namespace Sys2Proof

namespace Machine.State

theorem pushFrame_readByte_status (s : State) (ret : Addr) (brk : Bool) :
    (s.pushFrame ret brk).readByte (stackAddr (s.sp - 2)) = s.flags.pack brk := by
  rw [pushFrame, push_readByte, pushWord_sp_eq, if_pos rfl]

/-- Off the status byte, the frame is the return address pushed. -/
theorem pushFrame_readByte_of_ne (s : State) (ret : Addr) (brk : Bool) {a : Addr} (h : a ≠ stackAddr (s.sp - 2)) :
    (s.pushFrame ret brk).readByte a = (s.pushWord ret).readByte a := by
  rw [pushFrame, push_readByte, pushWord_sp_eq, if_neg h]

theorem enterInterrupt_sp_eq (s : State) (ret : Addr) (brk : Bool) (vec : Addr) :
    (s.enterInterrupt ret brk vec).sp = s.sp - 3 := by
  rw [enterInterrupt_sp, sub_sub, sub_sub]
  rfl

/-- The shared entry is that of R210 (60_exceptions.md), where the vector is outside the page the frame is pushed in. -/
theorem enterInterrupt_entered (s : State) (ret : Addr) (brk : Bool) {vec : Addr} (h : hiByte vec ≠ 1)
    (h' : hiByte (vec + 1) ≠ 1) : Entered s ret brk vec (s.enterInterrupt ret brk vec) := by
  have hhi : stackAddr s.sp ≠ stackAddr (s.sp - 2) := (stackAddr_inj _ _).not.mpr (by bv_omega)
  have hlo : stackAddr (s.sp - 1) ≠ stackAddr (s.sp - 2) := (stackAddr_inj _ _).not.mpr (by bv_omega)
  refine ⟨?hi, ?lo, ?status, ?others, ?frame⟩
  case hi => rw [enterInterrupt_readByte, pushFrame_readByte_of_ne s ret brk hhi, pushWord_readByte_hi, hiByte_toNat]
  case lo => rw [enterInterrupt_readByte, pushFrame_readByte_of_ne s ret brk hlo, pushWord_readByte_lo, loByte_toNat]
  case status => rw [enterInterrupt_readByte, pushFrame_readByte_status, Flags.pack_toNat]
  case others =>
    intro a ahi alo astatus
    rw [enterInterrupt_readByte, pushFrame_readByte_of_ne s ret brk astatus, pushWord_readByte_other s ret ahi alo]
  case frame =>
    rw [← enterInterrupt_sp_eq s ret brk vec, ← read16_def, ← enterInterrupt_pc s ret brk h h']
    ext1 <;> simp

/-- A halt under a strap, as R196 words it. -/
theorem haltIf_eq (s : State) (halt : Bool) :
    s.haltIf halt = { s with running := if halt = true then false else s.running } := by
  cases halt <;> simp [haltIf]

/-- The entry neither looks at the run latch nor writes it, so a halt after it is a halt before it. -/
theorem entered_haltIf {s t : State} {ret vec : Addr} {brk : Bool} (h : Entered s ret brk vec t) (halt : Bool) :
    Entered (s.haltIf halt) ret brk vec (t.haltIf halt) := by
  obtain ⟨hhi, hlo, hstatus, hothers, hframe⟩ := h
  exact ⟨hhi, hlo, hstatus, hothers, congrArg (haltIf · halt) hframe⟩

theorem returnFromInterrupt_sp_eq (s : State) : s.returnFromInterrupt.sp = s.sp + 3 := by
  rw [returnFromInterrupt_sp, add_assoc, add_assoc]
  rfl

/-- All that a return changes (45_stack_flags_system.md R197). -/
theorem returnFromInterrupt_eq (s : State) : s.returnFromInterrupt = { s with
    sp := s.sp + 3
    flags := Flags.unpack s.pullByte
    pc := s.returnFromInterrupt.pc } := by
  rw [← returnFromInterrupt_sp_eq, ← returnFromInterrupt_flags]
  ext1 <;> simp

/-- The address returned to is the word above the status byte, with no increment. -/
theorem returnFromInterrupt_pc_toNat (s : State) : s.returnFromInterrupt.pc.toNat =
    256 * (s.readByte (stackAddr (s.sp + 3))).toNat + (s.readByte (stackAddr (s.sp + 2))).toNat := by
  have hhi : s.pulled.sp + 2 = s.sp + 3 := add_assoc s.sp 1 2
  have hlo : s.pulled.sp + 1 = s.sp + 2 := add_assoc s.sp 1 1
  rw [returnFromInterrupt_pc, pullWord_toNat, hhi, hlo, pulled_readByte, pulled_readByte]

end Machine.State

end Sys2Proof
end

section
/-! The stack, flag and system instructions (45_stack_flags_system.md R180 to R197): one push or pull, one flag, or the
interrupt entry and return. -/

open Sys2Proof.Machine Sys2Proof.Machine.State Sys2Proof.Stated

namespace Sys2Proof

/-! ## Pushes and pulls -/

namespace Machine

/-- The instruction completes, pushing the byte: every other byte, register, flag and latch is as before. -/
def Pushes (s : State) (i : Instr) (v : Byte) : Prop :=
  ∃ t, exec i s = .next t ∧ t.readByte (stackAddr s.sp) = v ∧
    (∀ a, a ≠ stackAddr s.sp → t.readByte a = s.readByte a) ∧
    t = { s with mem := t.mem, sp := s.sp - 1, pc := nextPc s i }

theorem pushes_of_operate {s : State} {i : Instr} {v : Byte} (hi : i.mnemonic ∉ controlMnemonics)
    (h : operate i.mnemonic i.operand s = s.push v) : Pushes s i v := by
  refine ⟨(s.push v).setPc (nextPc s i), by rw [exec_in_sequence hi, h], ?top, ?others, rfl⟩
  case top => rw [setPc_readByte, push_readByte, if_pos rfl]
  case others =>
    intro a ha
    rw [setPc_readByte, push_readByte, if_neg ha]

end Machine

/-- Settles O31: both push one byte, PHP the packed status. -/
theorem pushesStoreAOrTheStatus : Obligations.PushesStoreAOrTheStatus := by
  unfold Obligations.PushesStoreAOrTheStatus
  intro s
  obtain ⟨t, hexec, htop, hothers, hframe⟩ : Pushes s .php (s.flags.pack true) := pushes_of_operate (by decide) rfl
  exact ⟨⟨rfl, pushes_of_operate (by decide) rfl⟩,
    ⟨rfl, t, hexec, by rw [htop, Flags.pack_toNat], hothers, hframe⟩⟩

/-- Settles O32: the byte pulled is the one above `SP`; PLA loads it, PLP unpacks it. -/
theorem pullsLoadAOrAllFlags : Obligations.PullsLoadAOrAllFlags := by
  unfold Obligations.PullsLoadAOrAllFlags
  intro s
  refine ⟨⟨rfl, ?pla⟩, ⟨rfl, exec_in_sequence (by decide) s⟩⟩
  case pla =>
    rw [← Flags.setZN_eq_znFrom]
    exact exec_in_sequence (i := .pla) (by decide) s

/-! ## Flags and NOP -/

/-- Settles O33: the operation of each is the write of its flag. -/
theorem flagInstructionsWriteTheirFlagOnly : Obligations.FlagInstructionsWriteTheirFlagOnly := by
  unfold Obligations.FlagInstructionsWriteTheirFlagOnly
  intro s
  exact ⟨⟨rfl, onlyFlags_of_operate (by decide) rfl⟩, ⟨rfl, onlyFlags_of_operate (by decide) rfl⟩,
    ⟨rfl, onlyFlags_of_operate (by decide) rfl⟩, ⟨rfl, onlyFlags_of_operate (by decide) rfl⟩,
    ⟨rfl, onlyFlags_of_operate (by decide) rfl⟩, ⟨rfl, onlyFlags_of_operate (by decide) rfl⟩,
    ⟨rfl, onlyFlags_of_operate (by decide) rfl⟩⟩

/-- Settles O34: NOP has no operation, so `PC` in sequence is all; a step that fetches its byte adds the cycles. -/
theorem nopMovesOnlyThePc : Obligations.NopMovesOnlyThePc := by
  unfold Obligations.NopMovesOnlyThePc
  intro s
  have hexec : exec .nop s = .next { s with pc := s.pc + 1 } := exec_in_sequence (by decide) s
  refine ⟨⟨rfl, hexec⟩, fun hs hcheck hop => ?_⟩
  have hfetch : s.fetchDecode = .ok .nop := decode_of_encode_eq_take (congrArg (fun b => [b]) hop.symm)
  rw [← hcheck] at hfetch hexec
  rw [step_of_exec hs hfetch hexec, hcheck, fetchOpcode, hop]
  rfl

/-! ## BRK and RTI -/

/-- Settles O35: BRK is the shared entry, from the state its strap has halted or not. -/
theorem brkEntersThroughTheIrqVector : Obligations.BrkEntersThroughTheIrqVector := by
  unfold Obligations.BrkEntersThroughTheIrqVector
  intro s
  refine ⟨rfl, (s.enterInterrupt (s.pc + 2) true vecIrq).haltIf s.straps.haltOnBreak, exec_eq_complete .brk s, ?_⟩
  rw [← haltIf_eq]
  exact entered_haltIf (enterInterrupt_entered s (s.pc + 2) true (by decide) (by decide)) s.straps.haltOnBreak

/-- Settles O36: RTI is the shared return. -/
theorem rtiRestoresFlagsThenPc : Obligations.RtiRestoresFlagsThenPc := by
  unfold Obligations.RtiRestoresFlagsThenPc
  exact fun s => ⟨rfl, s.returnFromInterrupt, exec_eq_complete .rti s, returnFromInterrupt_eq s,
    returnFromInterrupt_pc_toNat s⟩

end Sys2Proof
end

section
/-! The invariant of the machine (Safety.lean): every operation keeps memory in canonical form, only the fetch of a byte
that is no opcode records a fault (60_exceptions.md R201), and a faulted machine is halted (R220). -/

open Sys2Proof.Machine Sys2Proof.Machine.State

namespace Sys2Proof

namespace Machine

/-! ## The canonical form of memory -/

theorem State.putShift_mem_wf {s : State} (h : s.mem.wf) (p : Operand) (r : Byte × Bool) : (s.putShift p r).mem.wf := by
  cases p
  case acc => exact h
  all_goals exact Memory.wf_write h _ _

/-- The writers store, push or enter an interrupt; every other operation leaves memory. -/
theorem operate_mem_wf (k : Mnemonic) (p : Operand) {s : State} (h : s.mem.wf) : (operate k p s).mem.wf := by
  cases k
  case sta | stx | sty => exact writeByte_mem_wf h _ _
  case asl | lsr | rol | ror => exact putShift_mem_wf h p _
  case inc | dec => exact Memory.wf_write h _ _
  case pha | php => exact push_mem_wf h _
  case jsr => exact pushWord_mem_wf h s.jsrReturn
  case brk => simpa only [operate, haltIf_mem] using enterInterrupt_mem_wf h _ _ _
  all_goals simpa [operate, branch_eq_setPc] using h

theorem exec_mem_wf {i : Instr} {s t : State} (hm : s.mem.wf) (h : exec i s = .next t) : t.mem.wf := by
  obtain ⟨target, rfl⟩ := exec_next h
  exact operate_mem_wf i.mnemonic i.operand hm

/-! ## The invariant -/

namespace State

/-- Without a fault the invariant speaks of memory alone. -/
theorem inv_of_fault_none {s : State} (hm : s.mem.wf) (hf : s.fault = none) : s.Inv :=
  ⟨hm, fun r hr => by simp [hf] at hr⟩

theorem Inv.fault_eq_none {s : State} (h : s.Inv) (hr : s.running = true) : s.fault = none := by
  refine Option.eq_none_iff_forall_ne_some.mpr fun r hf => ?_
  obtain ⟨hhalted, -⟩ := h.2 r hf
  simp [hr] at hhalted

/-- A faulted machine is halted (60_exceptions.md R220). -/
theorem Inv.running_of_fault {s : State} (h : s.Inv) (hf : s.fault ≠ none) : s.running = false :=
  Bool.eq_false_iff.mpr fun hr => hf (h.fault_eq_none hr)

theorem resetOver_inv (p : Straps) {m : Memory} (hm : m.wf) : (State.resetOver p m).Inv := inv_of_fault_none hm rfl

/-- The record made on the fetch of one of R68's bytes is the truth about the state it is made in. -/
theorem raiseUnknownOpcode_inv {s : State} (hm : s.mem.wf) (hop : s.fetchOpcode ∈ illegalOpcodes) :
    s.raiseUnknownOpcode.Inv := by
  refine ⟨hm, fun r hr => ?_⟩
  cases hr
  exact ⟨rfl, rfl, rfl, hop⟩

/-- A request touches nothing the invariant speaks of, and reset clears the fault and keeps memory (R206,
70_reset_and_hazards.md R233). -/
theorem envAct_inv {s : State} (h : s.Inv) (e : EnvAction) : (s.envAct e).Inv := by
  cases e with
  | requestIrq | requestNmi | requestStop => exact h
  | applyReset => exact resetOver_inv s.straps h.1

end State

theorem runInstruction_inv {s t : State} (hm : s.mem.wf) (hf : s.fault = none) (h : runInstruction s = .next t) :
    t.Inv := by
  obtain ⟨hop, hrun⟩ | ⟨-, i, u, -, hu, hrun⟩ := runInstruction_cases_opcode s <;> cases hrun.symm.trans h
  · exact raiseUnknownOpcode_inv hm hop
  · obtain ⟨-, -, -, hfault, -⟩ := instructionsLeaveTheLatchesAlone i s u hu
    have hmem : u.mem.wf := exec_mem_wf hm hu
    exact inv_of_fault_none hmem (hfault.trans hf)

/-- A halted state is answered as it is; a running one has no fault, so a stop or an instruction has only to keep
memory. -/
theorem step_inv {s t : State} (h : s.Inv) (hs : step s = .next t) : t.Inv := by
  obtain ⟨-, rfl⟩ | ⟨hr, -, rfl⟩ | ⟨hr, -, hrun⟩ := step_cases hs
  · exact h
  · exact inv_of_fault_none h.1 (h.fault_eq_none hr)
  · obtain ⟨-, hfault, -⟩ := interruptCheck_frame s
    exact runInstruction_inv (interruptCheck_mem_wf h.1) (hfault.trans (h.fault_eq_none hr)) hrun

/-- The invariant holds at reset, and every step and every action of the environment keeps it. -/
theorem Reachable.inv {s : State} (h : Reachable s) : s.Inv := by
  induction h with
  | powerOn straps image hm => exact resetOver_inv straps hm
  | envAct s e _ ih => exact envAct_inv ih e
  | step s t _ hs ih => exact step_inv ih hs

end Machine

/-- Settles O57, by what a step and the environment can do. -/
theorem everyStepKeepsTheInvariant : Obligations.EveryStepKeepsTheInvariant := by
  unfold Obligations.EveryStepKeepsTheInvariant
  exact ⟨fun _ _ => step_inv, fun _ e h => envAct_inv h e⟩

/-- Settles O58, by induction on the run; a faulted state is halted, so its step does nothing. -/
theorem everyReachableStateMeetsTheInvariant : Obligations.EveryReachableStateMeetsTheInvariant := by
  unfold Obligations.EveryReachableStateMeetsTheInvariant
  exact fun s h => ⟨h.inv, fun hf => step_of_halted (h.inv.running_of_fault hf)⟩

end Sys2Proof
end

section
/-! Exceptions (60_exceptions.md R201, R207 to R214): the unknown opcode, interrupts before the fetch, and the return
from each entry. -/

open Sys2Proof.Machine Sys2Proof.Machine.State Sys2Proof.Stated

namespace Sys2Proof

namespace Machine

/-! ## Which interrupt is taken -/

namespace State

/-- NMI goes first and is not masked (R207, R208). -/
theorem interruptCheck_of_nmi {s : State} (hn : s.nmiPending = true) :
    s.interruptCheck = service { s with nmiPending := false } vecNmi := by
  simp [interruptCheck, hn]

/-- IRQ is taken where no NMI is pending and `I` is clear. -/
theorem interruptCheck_of_irq {s : State} (hn : s.nmiPending = false) (hq : s.irqPending = true)
    (hi : s.flags.i = false) : s.interruptCheck = service { s with irqPending := false } vecIrq := by
  simp [interruptCheck, hn, hq, hi]

/-- A service is an interrupt entry that returns to the instruction not yet run, with bit 4 clear (R210). -/
theorem service_entered (s : State) {vec : Addr} (h : hiByte vec ≠ 1) (h' : hiByte (vec + 1) ≠ 1) :
    Entered s s.pc false vec (s.service vec) :=
  enterInterrupt_entered s s.pc false h h'

end State

/-! ## The return from an entry -/

/-- The status byte carries every flag but `B`, which comes back as the bit 4 it was packed with (10_state.md R17,
R18). -/
theorem Flags.unpack_pack (f : Flags) (b : Bool) : Flags.unpack (f.pack b) = { f with b := b } := by
  rw [pack_eq_concat]
  simp [Flags.unpack]

namespace State

/-- A byte pushed and pulled again leaves the word below it on the stack. -/
theorem push_pulled_pullWord (s : State) (v : Byte) : (s.push v).pulled.pullWord = s.pullWord := by
  have h1 : stackAddr (s.sp + 1) ≠ stackAddr s.sp := (stackAddr_inj _ _).not.mpr (by bv_omega)
  have h2 : stackAddr (s.sp + 1 + 1) ≠ stackAddr s.sp := (stackAddr_inj _ _).not.mpr (by bv_omega)
  rw [pullWord_def, push_pulled_sp, pulled_readByte, pulled_readByte, push_readByte, push_readByte, if_neg h1, if_neg h2,
    pullWord_def]

/-- A word is pulled from the memory at the stack pointer alone. -/
theorem pullWord_of_mem {s t : State} (hsp : t.sp = s.sp) (hmem : t.mem = s.mem) : t.pullWord = s.pullWord := by
  rw [pullWord_def, pullWord_def, hsp, readByte_of_mem hmem, readByte_of_mem hmem]

theorem enterInterrupt_pullByte (s : State) (ret : Addr) (brk : Bool) (vec : Addr) :
    (s.enterInterrupt ret brk vec).pullByte = s.flags.pack brk :=
  push_pullByte (s.pushWord ret) (s.flags.pack brk)

theorem enterInterrupt_pulled_pullWord (s : State) (ret : Addr) (brk : Bool) (vec : Addr) :
    (s.enterInterrupt ret brk vec).pulled.pullWord = ret := by
  have hsp : (s.enterInterrupt ret brk vec).pulled.sp = (s.pushFrame ret brk).pulled.sp := by simp
  rw [pullWord_of_mem hsp rfl, pushFrame, push_pulled_pullWord, pushWord_pullWord]

/-- The return undoes the entry but for the bytes left on the stack and the break flag, which is the bit 4 that was
pushed (R214). -/
theorem returnFromInterrupt_enterInterrupt (s : State) (ret : Addr) (brk : Bool) (vec : Addr) :
    (s.enterInterrupt ret brk vec).returnFromInterrupt = { s with
      mem := (s.enterInterrupt ret brk vec).mem
      flags := { s.flags with b := brk }
      pc := ret } := by
  rw [returnFromInterrupt_eq, returnFromInterrupt_pc, enterInterrupt_pulled_pullWord, enterInterrupt_pullByte,
    Flags.unpack_pack, enterInterrupt_sp_eq, sub_add_cancel]
  ext1 <;> simp

/-- The return neither looks at the run latch nor writes it. -/
theorem returnFromInterrupt_haltIf (s : State) (halt : Bool) :
    (s.haltIf halt).returnFromInterrupt = s.returnFromInterrupt.haltIf halt := rfl

end State

theorem exec_brk (s : State) :
    exec .brk s = .next ((s.enterInterrupt (s.pc + 2) true vecIrq).haltIf s.straps.haltOnBreak) :=
  exec_eq_complete .brk s

theorem exec_rti (s : State) : exec .rti s = .next s.returnFromInterrupt := exec_eq_complete .rti s

end Machine

/-- Settles O39: the iteration gets to the fetch, and the byte fetched is no opcode. -/
theorem unknownOpcodeHaltsPrecisely : Obligations.UnknownOpcodeHaltsPrecisely := by
  unfold Obligations.UnknownOpcodeHaltsPrecisely
  rintro s _ hs rfl hop
  exact (step_of_iterates hs).trans (runInstruction_of_illegal hop)

/-- Settles O40: the iteration runs the instruction after the interrupt check, which makes at most one entry. -/
theorem interruptsAreTakenBeforeTheFetch : Obligations.InterruptsAreTakenBeforeTheFetch := by
  unfold Obligations.InterruptsAreTakenBeforeTheFetch
  intro s hs
  rw [step_of_iterates hs]
  refine ⟨fun hn => ?nmi, fun hn hq hi => ?irq, fun hn hq => ?none⟩
  case nmi => exact ⟨_, service_entered _ (by decide) (by decide), congrArg runInstruction (interruptCheck_of_nmi hn)⟩
  case irq =>
    exact ⟨_, service_entered _ (by decide) (by decide), congrArg runInstruction (interruptCheck_of_irq hn hq hi)⟩
  case none => rw [interruptCheck_eq_self hn hq]

/-- Settles O41: both entries are the shared one, and BRK's halt stays out of the return's way. -/
theorem rtiUndoesAnEntry : Obligations.RtiUndoesAnEntry := by
  unfold Obligations.RtiUndoesAnEntry
  refine ⟨fun s vec => ?service, fun s => ?brk⟩
  case service => rw [exec_rti, service, returnFromInterrupt_enterInterrupt]
  case brk =>
    refine ⟨_, _, exec_brk s, exec_rti _, ?_⟩
    rw [returnFromInterrupt_haltIf, returnFromInterrupt_enterInterrupt]
    ext1 <;> simp

end Sys2Proof
end

section
/-! Reset (70_reset_and_hazards.md R230, R231, R233) and the base cycle counts (R244): what the state after reset fetches,
and the cycle column of the opcode map against the rule's table. -/

open Sys2Proof.Machine Sys2Proof.Machine.State Sys2Proof.Stated

namespace Sys2Proof

namespace Machine

/-! ## The state after reset -/

namespace State

/-- The reset vector is a little-endian value (R231). -/
theorem resetOver_pc (p : Straps) (m : Memory) :
    (State.resetOver p m).pc = wordOf (m.read 0xFFFC) (m.read 0xFFFD) := rfl

/-- Reset sets the run latch and leaves no stop request, so the first step gets as far as the fetch. -/
theorem resetOver_iterates (p : Straps) (m : Memory) : Iterates (State.resetOver p m) := ⟨rfl, rfl⟩

/-- Reset clears both latches, so the first step services no interrupt. -/
theorem resetOver_interruptCheck (p : Straps) (m : Memory) :
    (State.resetOver p m).interruptCheck = State.resetOver p m :=
  interruptCheck_eq_self rfl fun hq => Bool.noConfusion hq

end State

end Machine

/-! ## The base cycle counts -/

/-- Each row of the map has the cycle count that R244 prints for the mnemonic of the row's instruction and its format. -/
theorem opcodeTable_cycles (b1 b2 : Byte) :
    opcodeTable.map (·.cycles) = opcodeTable.map (fun r => r244 (r.build b1 b2).mnemonic r.mode) := by
  simp [opcodeTable, opcodeRow0, opcodeRow1, opcodeRow2, opcodeRow3, opcodeRow4, opcodeRow5, opcodeRow6, opcodeRow7,
    opcodeRow8, opcodeRow9, opcodeRowA, opcodeRowB, opcodeRowC, opcodeRowD, opcodeRowE, opcodeRowF, row0, row1, row2,
    Instr.mnemonic, r244]

theorem cycles_of_opcodeLookup {b : Byte} {r : OpRow} (h : opcodeLookup b = some r) (b1 b2 : Byte) :
    r.cycles = r244 (r.build b1 b2).mnemonic r.mode :=
  List.map_inj_left.mp (opcodeTable_cycles b1 b2) r (opcodeLookup_some h).1

namespace Machine

theorem defaultBaseCycles_of_opcodeLookup {b : Byte} {r : OpRow} (h : opcodeLookup b = some r) :
    defaultBaseCycles b = r.cycles := by rw [defaultBaseCycles, h]

/-- The row of an instruction's opcode builds the instruction and has its format, so the row's count is R244's. -/
theorem defaultBaseCycles_opcode (i : Instr) : defaultBaseCycles i.opcode = r244 i.mnemonic i.mode := by
  obtain ⟨-, -, r, hr, hmode, hbuild⟩ := encodeShape i
  rw [defaultBaseCycles_of_opcodeLookup hr, cycles_of_opcodeLookup hr, hbuild, hmode]

theorem Straps.baseCycles_of_nil {p : Straps} (h : p.cycleExceptions = []) (op : Byte) :
    p.baseCycles op = defaultBaseCycles op := by
  rw [Straps.baseCycles, h, List.lookup_nil, Option.getD_none]

theorem Straps.baseCycles_of_cons_self {p : Straps} {op : Byte} {n : Nat} {l : List (Nat × Nat)}
    (h : p.cycleExceptions = (op.toNat, n) :: l) : p.baseCycles op = n := by
  rw [Straps.baseCycles, h, List.lookup_cons_self, Option.getD_some]

end Machine

/-- Settles O54: nothing stands between reset and the fetch at the vector's value, and 0xFF is one of R68's bytes, so the
first step is the unknown-opcode halt of O39. -/
theorem resetVectorAtAnUnknownByteHaltsAtOnce : Obligations.ResetVectorAtAnUnknownByteHaltsAtOnce := by
  unfold Obligations.ResetVectorAtAnUnknownByteHaltsAtOnce
  intro p m hm
  have hbyte : (State.resetOver p m).readByte (State.resetOver p m).pc = 0xFF := hm
  have hop : (State.resetOver p m).readByte (State.resetOver p m).pc ∈ illegalOpcodes := by rw [hbyte]; decide
  rw [unknownOpcodeHaltsPrecisely _ _ (resetOver_iterates p m) (resetOver_interruptCheck p m) hop, hbyte, resetOver_pc]
  rfl

/-- Settles O44: the default count is its row's, and a strap's table is consulted first. -/
theorem defaultBaseCyclesAreTheTable : Obligations.DefaultBaseCyclesAreTheTable := by
  unfold Obligations.DefaultBaseCyclesAreTheTable
  exact ⟨defaultBaseCycles_opcode, fun _ op h => Straps.baseCycles_of_nil h op,
    fun _ _ _ _ h => Straps.baseCycles_of_cons_self h⟩

/-- Settles O53: the reset state is written out in `State.resetOver`, and the environment's reset and `State.reset` are
that state over the memory in place and over the empty one. -/
theorem resetGivesTheStatedValues : Obligations.ResetGivesTheStatedValues := by
  unfold Obligations.ResetGivesTheStatedValues
  exact ⟨fun _ _ => rfl, fun _ => rfl, Straps.reset, [], rfl⟩

/-- Settles O56, by `resetOver_inv`: reset records no fault, and the empty memory is canonical. -/
theorem resetMeetsTheInvariant : Obligations.ResetMeetsTheInvariant := by
  unfold Obligations.ResetMeetsTheInvariant
  exact ⟨fun p _ hm => resetOver_inv p hm, resetOver_inv Straps.reset (by decide)⟩

end Sys2Proof
end
